-- ==== Sys2Proof/Word.lean ====
section
/-! DEFINITION. The two word types of the machine: a byte and a 16-bit word (00_scope.md R7, R8). -/

namespace Sys2Proof

/-- An 8-bit value: `XLEN` of R7, one byte of the address space (R51). -/
abbrev Byte := BitVec 8

/-- A 16-bit value: `PAIRLEN` of R7, a register pair, `SP`, `PC` or an address. -/
abbrev Word := BitVec 16

end Sys2Proof
end

