-- ==== Sys2Proof/Config.lean ====
section
/-! DEFINITION. What the spec leaves as a parameter (00_scope.md R7): the fixed parameters; the OPEN parameters as
one record of plain data, an argument of the machine, with the default the spec recommends (log 11 to 16, 30); and
the free values, which are constants without a body so that no proof can see them (log 7 to 10). -/

namespace Sys2Proof.Config

/-- R257, R7 `RST_VECTOR`: restart target number `y`. -/
def rstVector (y : Fin 8) : Word := BitVec.ofNat 16 (8 * y.val)

/-- R293, R7 `INT_VECTOR`: the vector of interrupt source `i`. -/
def intVector (i : Fin 5) : Word := BitVec.ofNat 16 (0x40 + 8 * i.val)

/-- R133: the eleven byte values that select no instruction. -/
def illegalOpcodes : List Byte :=
  [0xD3, 0xDB, 0xDD, 0xE3, 0xE4, 0xEB, 0xEC, 0xED, 0xF4, 0xFC, 0xFD]

/-! ## The picture's fixed sizes -/

/-- `VISIBLE_LINES` (R7). -/
def visibleLines : Nat := 144
/-- `VBLANK_LINES` (R7). -/
def vblankLines : Nat := 10
/-- `SCREEN_W` (R7). -/
def screenW : Nat := 160
/-- `SCREEN_H` (R7). -/
def screenH : Nat := 144
/-- `NSPRITES` (R7). -/
def nSprites : Nat := 40
/-- `OAM_BYTES` (R7). -/
def oamBytes : Nat := 160

/-- The two senses of the sprite priority bit (R329). -/
inductive PrioritySense where
  /-- The source's sentence: suppressed where the background or window shade number is 0. -/
  | source
  /-- The other sense: suppressed where the background or window colour index is not 0. -/
  | hardware
deriving DecidableEq, Repr

/-! ## The OPEN parameters (R7) -/

/-- The OPEN parameters of R7 that have a default, as plain data, each any value: a machine holds one such record, its
state carries it, and nothing changes it (log 30). A parameter that is a table is held as its differences from the
default table, so that every table is a value of it and the default is the empty list. `RESET` and `PcmEncode` are arguments of the operations that use
them; the default and what a parameter means stand in Machine/Params.lean. -/
structure Params where
  /-- where `TickCost(op, taken)` differs from R370's table: the opcode, then its cost taken and not taken (log 11) -/
  ticks : List (Nat × (Nat × Nat))
  /-- the same for the secondary map: the second byte, then the cost of both bytes (log 11) -/
  secondaryTicks : List (Nat × Nat)
  /-- `HALT_IDLE_TICKS` (R370; log 11) -/
  haltIdle : Nat
  /-- `INT_DISPATCH_TICKS` (R370; log 11) -/
  intDispatch : Nat
  /-- `HaltWithIME0Halts` (R261; log 12) -/
  haltWithIme0Halts : Bool
  /-- `PHASE_TICKS`, OAM-search (R310; log 13) -/
  phaseOam : Nat
  /-- `PHASE_TICKS`, pixel-transfer (R310; log 13) -/
  phaseTransfer : Nat
  /-- `PHASE_TICKS`, H-Blank (R310; log 13) -/
  phaseHBlank : Nat
  /-- `PHASE_TICKS`, V-Blank line (R310; log 13) -/
  phaseVBlank : Nat
  /-- `SHADE[0]` to `SHADE[3]` (R71; log 14) -/
  shade0 : BitVec 32
  shade1 : BitVec 32
  shade2 : BitVec 32
  shade3 : BitVec 32
  /-- `SPRITE_PRIORITY_SENSE` (R329; log 15) -/
  prioritySense : PrioritySense
  /-- where `LenCalls(ch, t)` differs from R344's default: the channel and the field, then the calls (log 16) -/
  lens : List ((Nat × Nat) × Nat)
deriving DecidableEq, Repr

/-! ## Free values -/

/-- `UNMAPPED_READ` of draw number `n`: any byte, a fresh one at every draw (R58, R79; log 7). -/
opaque freeByte (n : Nat) : Byte

/-- `render_this_frame` of draw number `n`: any Boolean (R330; log 8). -/
opaque freeRender (n : Nat) : Bool

/-- The seconds field of `RtcNow()` at draw number `n`, below 60 (R109; log 9). -/
opaque rtcSeconds (n : Nat) : Fin 60
/-- The minutes field of `RtcNow()`, below 60 (R109; log 9). -/
opaque rtcMinutes (n : Nat) : Fin 60
/-- The hours field of `RtcNow()`, below 24 (R109; log 9). -/
opaque rtcHours (n : Nat) : Fin 24
/-- The day-low field of `RtcNow()`, any byte (R109; log 9). -/
opaque rtcDayLow (n : Nat) : Byte
/-- The day-high field of `RtcNow()`, any byte (R109; log 9). -/
opaque rtcDayHigh (n : Nat) : Byte

/-- `GetOutputSampleRate()` less one at draw number `n`: the rate is positive (R337; log 8). -/
opaque freeSampleRatePred (n : Nat) : Nat
/-- `GetSamplesAvailable()` at draw number `n` (R337; log 8). -/
opaque freeSamplesAvailable (n : Nat) : Nat

/-- `ToneSample(duty, freq, amp, pos, rate)` where `amp` is not 0 (R347; log 10). -/
opaque freeToneSample (duty : BitVec 2) (freq : BitVec 11) (amp : BitVec 4) (pos rate : Nat) : Int
/-- `WaveSample(wave, level, freq, pos, rate)` where `level` is not 0 (R347; log 10). -/
opaque freeWaveSample (wave : List (BitVec 4)) (level : BitVec 2) (freq : BitVec 11) (pos rate : Nat) : Int
/-- `NoiseSample(table, shift, divisor, amp, pos, rate)` where `amp` is not 0 (R347; log 10). -/
opaque freeNoiseSample (table : List Bool) (shift : BitVec 4) (divisor : BitVec 3) (amp : BitVec 4)
    (pos rate : Nat) : Int
/-- `NOISE_TABLE_7` (R347; log 10). -/
opaque noiseTable7 : List Bool
/-- `NOISE_TABLE_15` (R347; log 10). -/
opaque noiseTable15 : List Bool

end Sys2Proof.Config
end

