-- ==== Sys2Proof/Machine/Bits.lean ====
section
/-! DEFINITION. Bytes of a word, sign extension and bit tests, by 00_scope.md R8. -/

namespace Sys2Proof

/-- `hi:lo` of R8: `hi` in bits 15 to 8. -/
def word (hi lo : Byte) : Word := hi ++ lo

/-- `v[15:8]`. -/
def hiByte (v : Word) : Byte := v.extractLsb' 8 8

/-- `v[7:0]`. -/
def loByte (v : Word) : Byte := v.extractLsb' 0 8

/-- `sext_16(e)` of R8. -/
def sext16 (e : Byte) : Word := e.signExtend 16

/-- `0xFF:n`, the high-page address of R127. -/
def highPage (n : Byte) : Word := word 0xFF n

/-- `(cond ? 1 : 0)` as an integer of R8's pseudocode. -/
def bitNat (b : Bool) : Nat := if b then 1 else 0

end Sys2Proof
end

