-- ==== Sys2Proof/Machine/Codes.lean ====
section
/-! DEFINITION. The operand and operation codes of an opcode byte (30_encoding.md R122 to R126). -/

namespace Sys2Proof

/-- The seven 8-bit registers (10_state.md R13). -/
inductive Reg8 where
  | b | c | d | e | h | l | a
deriving DecidableEq, Repr

/-- An 8-bit operand of R123: a register, or code 6, the memory byte at `HL`. -/
inductive Operand8 where
  | reg (r : Reg8)
  | memHl
deriving DecidableEq, Repr

/-- The pairs of table `rp` (R124). -/
inductive Pair where
  | bc | de | hl | sp
deriving DecidableEq, Repr

/-- The pairs of table `rp2` (R124) other than `AF`. -/
inductive StackPair where
  | bc | de | hl
deriving DecidableEq, Repr

/-- The conditions of R125. -/
inductive Cond where
  | nz | z | nc | c
deriving DecidableEq, Repr

/-- The operations of table `alu` (R126). -/
inductive AluOp where
  | add | adc | sub | sbc | and | xor | or | cp
deriving DecidableEq, Repr

/-- The operations of table `rot` (R126). -/
inductive RotOp where
  | rlc | rrc | rl | rr | sla | sra | swap | srl
deriving DecidableEq, Repr

/-- The 3-bit operand code of R123. -/
def operandOfCode (k : Nat) : Operand8 :=
  match k with
  | 0 => .reg .b | 1 => .reg .c | 2 => .reg .d | 3 => .reg .e
  | 4 => .reg .h | 5 => .reg .l | 6 => .memHl | _ => .reg .a

/-- Table `rp` of R124. -/
def pairOfCode (k : Nat) : Pair :=
  match k with
  | 0 => .bc | 1 => .de | 2 => .hl | _ => .sp

/-- The condition codes of R125. -/
def condOfCode (k : Nat) : Cond :=
  match k with
  | 0 => .nz | 1 => .z | 2 => .nc | _ => .c

/-- Table `alu` of R126. -/
def aluOfCode (k : Nat) : AluOp :=
  match k with
  | 0 => .add | 1 => .adc | 2 => .sub | 3 => .sbc | 4 => .and | 5 => .xor | 6 => .or | _ => .cp

/-- Table `rot` of R126. -/
def rotOfCode (k : Nat) : RotOp :=
  match k with
  | 0 => .rlc | 1 => .rrc | 2 => .rl | 3 => .rr | 4 => .sla | 5 => .sra | 6 => .swap | _ => .srl

/-- A field of three bits as a bit number (R127). -/
def bitOfCode (k : Nat) : Fin 8 := Fin.ofNat 8 k

/-! ## The codes themselves: the same tables read the other way -/

/-- The code of a register (R123). -/
def Reg8.code (r : Reg8) : Nat :=
  match r with
  | .b => 0 | .c => 1 | .d => 2 | .e => 3 | .h => 4 | .l => 5 | .a => 7

/-- The code of a pair in table `rp` (R124). -/
def Pair.code (p : Pair) : Nat :=
  match p with
  | .bc => 0 | .de => 1 | .hl => 2 | .sp => 3

/-- The code of a pair in table `rp2` (R124). -/
def StackPair.code (p : StackPair) : Nat :=
  match p with
  | .bc => 0 | .de => 1 | .hl => 2

/-- The code of a condition (R125). -/
def Cond.code (cc : Cond) : Nat :=
  match cc with
  | .nz => 0 | .z => 1 | .nc => 2 | .c => 3

/-- The code of an operation in table `alu` (R126). -/
def AluOp.code (op : AluOp) : Nat :=
  match op with
  | .add => 0 | .adc => 1 | .sub => 2 | .sbc => 3 | .and => 4 | .xor => 5 | .or => 6 | .cp => 7

/-- The code of an operation in table `rot` (R126). -/
def RotOp.code (op : RotOp) : Nat :=
  match op with
  | .rlc => 0 | .rrc => 1 | .rl => 2 | .rr => 3 | .sla => 4 | .sra => 5 | .swap => 6 | .srl => 7

end Sys2Proof
end

