-- ==== Sys2Proof/Syntax.lean ====
section
/-! DEFINITION. The instruction set as syntax: one constructor per row of spec/opcode_table.json, in the
table's order (the eleven ILLEGAL rows, one mnemonic, are one constructor that carries the byte; log 17).
A name is the row's mnemonic in lower case; `m` before an operand means that it stands in parentheses, `i` and `d`
after `mhl` are the post-increment and post-decrement. Operand bytes are arguments (30_encoding.md R121). -/

namespace Sys2Proof

/-- An instruction. The comment of a constructor is the assembler spelling (30_encoding.md R137). -/
inductive Instr where
  /-- `NOP` (R259) -/
  | nop
  /-- `LD BC,nn` (R166) -/
  | ld_bc_nn (nn : Word)
  /-- `LD (BC),A` (R148) -/
  | ld_mbc_a
  /-- `INC BC` (R206) -/
  | inc_bc
  /-- `INC B` (R184) -/
  | inc_b
  /-- `DEC B` (R186) -/
  | dec_b
  /-- `LD B,n` (R142) -/
  | ld_b_n (n : Byte)
  /-- `RLCA` (R214) -/
  | rlca
  /-- `LD (nn),SP` (R167) -/
  | ld_mnn_sp (nn : Word)
  /-- `ADD HL,BC` (R208) -/
  | add_hl_bc
  /-- `LD A,(BC)` (R146) -/
  | ld_a_mbc
  /-- `DEC BC` (R207) -/
  | dec_bc
  /-- `INC C` (R184) -/
  | inc_c
  /-- `DEC C` (R186) -/
  | dec_c
  /-- `LD C,n` (R142) -/
  | ld_c_n (n : Byte)
  /-- `RRCA` (R215) -/
  | rrca
  /-- `STOP` (R262) -/
  | stop (n : Byte)
  /-- `LD DE,nn` (R166) -/
  | ld_de_nn (nn : Word)
  /-- `LD (DE),A` (R149) -/
  | ld_mde_a
  /-- `INC DE` (R206) -/
  | inc_de
  /-- `INC D` (R184) -/
  | inc_d
  /-- `DEC D` (R186) -/
  | dec_d
  /-- `LD D,n` (R142) -/
  | ld_d_n (n : Byte)
  /-- `RLA` (R216) -/
  | rla
  /-- `JR e` (R248) -/
  | jr_e (e : Byte)
  /-- `ADD HL,DE` (R208) -/
  | add_hl_de
  /-- `LD A,(DE)` (R147) -/
  | ld_a_mde
  /-- `DEC DE` (R207) -/
  | dec_de
  /-- `INC E` (R184) -/
  | inc_e
  /-- `DEC E` (R186) -/
  | dec_e
  /-- `LD E,n` (R142) -/
  | ld_e_n (n : Byte)
  /-- `RRA` (R217) -/
  | rra
  /-- `JR NZ,e` (R249) -/
  | jr_nz_e (e : Byte)
  /-- `LD HL,nn` (R166) -/
  | ld_hl_nn (nn : Word)
  /-- `LD (HL+),A` (R158) -/
  | ld_mhli_a
  /-- `INC HL` (R206) -/
  | inc_hl
  /-- `INC H` (R184) -/
  | inc_h
  /-- `DEC H` (R186) -/
  | dec_h
  /-- `LD H,n` (R142) -/
  | ld_h_n (n : Byte)
  /-- `DAA` (R199) -/
  | daa
  /-- `JR Z,e` (R249) -/
  | jr_z_e (e : Byte)
  /-- `ADD HL,HL` (R208) -/
  | add_hl_hl
  /-- `LD A,(HL+)` (R156) -/
  | ld_a_mhli
  /-- `DEC HL` (R207) -/
  | dec_hl
  /-- `INC L` (R184) -/
  | inc_l
  /-- `DEC L` (R186) -/
  | dec_l
  /-- `LD L,n` (R142) -/
  | ld_l_n (n : Byte)
  /-- `CPL` (R200) -/
  | cpl
  /-- `JR NC,e` (R249) -/
  | jr_nc_e (e : Byte)
  /-- `LD SP,nn` (R166) -/
  | ld_sp_nn (nn : Word)
  /-- `LD (HL-),A` (R159) -/
  | ld_mhld_a
  /-- `INC SP` (R206) -/
  | inc_sp
  /-- `INC (HL)` (R185) -/
  | inc_mhl
  /-- `DEC (HL)` (R187) -/
  | dec_mhl
  /-- `LD (HL),n` (R145) -/
  | ld_mhl_n (n : Byte)
  /-- `SCF` (R201) -/
  | scf
  /-- `JR C,e` (R249) -/
  | jr_c_e (e : Byte)
  /-- `ADD HL,SP` (R208) -/
  | add_hl_sp
  /-- `LD A,(HL-)` (R157) -/
  | ld_a_mhld
  /-- `DEC SP` (R207) -/
  | dec_sp
  /-- `INC A` (R184) -/
  | inc_a
  /-- `DEC A` (R186) -/
  | dec_a
  /-- `LD A,n` (R142) -/
  | ld_a_n (n : Byte)
  /-- `CCF` (R202) -/
  | ccf
  /-- `LD B,B` (R141) -/
  | ld_b_b
  /-- `LD B,C` (R141) -/
  | ld_b_c
  /-- `LD B,D` (R141) -/
  | ld_b_d
  /-- `LD B,E` (R141) -/
  | ld_b_e
  /-- `LD B,H` (R141) -/
  | ld_b_h
  /-- `LD B,L` (R141) -/
  | ld_b_l
  /-- `LD B,(HL)` (R143) -/
  | ld_b_mhl
  /-- `LD B,A` (R141) -/
  | ld_b_a
  /-- `LD C,B` (R141) -/
  | ld_c_b
  /-- `LD C,C` (R141) -/
  | ld_c_c
  /-- `LD C,D` (R141) -/
  | ld_c_d
  /-- `LD C,E` (R141) -/
  | ld_c_e
  /-- `LD C,H` (R141) -/
  | ld_c_h
  /-- `LD C,L` (R141) -/
  | ld_c_l
  /-- `LD C,(HL)` (R143) -/
  | ld_c_mhl
  /-- `LD C,A` (R141) -/
  | ld_c_a
  /-- `LD D,B` (R141) -/
  | ld_d_b
  /-- `LD D,C` (R141) -/
  | ld_d_c
  /-- `LD D,D` (R141) -/
  | ld_d_d
  /-- `LD D,E` (R141) -/
  | ld_d_e
  /-- `LD D,H` (R141) -/
  | ld_d_h
  /-- `LD D,L` (R141) -/
  | ld_d_l
  /-- `LD D,(HL)` (R143) -/
  | ld_d_mhl
  /-- `LD D,A` (R141) -/
  | ld_d_a
  /-- `LD E,B` (R141) -/
  | ld_e_b
  /-- `LD E,C` (R141) -/
  | ld_e_c
  /-- `LD E,D` (R141) -/
  | ld_e_d
  /-- `LD E,E` (R141) -/
  | ld_e_e
  /-- `LD E,H` (R141) -/
  | ld_e_h
  /-- `LD E,L` (R141) -/
  | ld_e_l
  /-- `LD E,(HL)` (R143) -/
  | ld_e_mhl
  /-- `LD E,A` (R141) -/
  | ld_e_a
  /-- `LD H,B` (R141) -/
  | ld_h_b
  /-- `LD H,C` (R141) -/
  | ld_h_c
  /-- `LD H,D` (R141) -/
  | ld_h_d
  /-- `LD H,E` (R141) -/
  | ld_h_e
  /-- `LD H,H` (R141) -/
  | ld_h_h
  /-- `LD H,L` (R141) -/
  | ld_h_l
  /-- `LD H,(HL)` (R143) -/
  | ld_h_mhl
  /-- `LD H,A` (R141) -/
  | ld_h_a
  /-- `LD L,B` (R141) -/
  | ld_l_b
  /-- `LD L,C` (R141) -/
  | ld_l_c
  /-- `LD L,D` (R141) -/
  | ld_l_d
  /-- `LD L,E` (R141) -/
  | ld_l_e
  /-- `LD L,H` (R141) -/
  | ld_l_h
  /-- `LD L,L` (R141) -/
  | ld_l_l
  /-- `LD L,(HL)` (R143) -/
  | ld_l_mhl
  /-- `LD L,A` (R141) -/
  | ld_l_a
  /-- `LD (HL),B` (R144) -/
  | ld_mhl_b
  /-- `LD (HL),C` (R144) -/
  | ld_mhl_c
  /-- `LD (HL),D` (R144) -/
  | ld_mhl_d
  /-- `LD (HL),E` (R144) -/
  | ld_mhl_e
  /-- `LD (HL),H` (R144) -/
  | ld_mhl_h
  /-- `LD (HL),L` (R144) -/
  | ld_mhl_l
  /-- `HALT` (R261) -/
  | halt
  /-- `LD (HL),A` (R144) -/
  | ld_mhl_a
  /-- `LD A,B` (R141) -/
  | ld_a_b
  /-- `LD A,C` (R141) -/
  | ld_a_c
  /-- `LD A,D` (R141) -/
  | ld_a_d
  /-- `LD A,E` (R141) -/
  | ld_a_e
  /-- `LD A,H` (R141) -/
  | ld_a_h
  /-- `LD A,L` (R141) -/
  | ld_a_l
  /-- `LD A,(HL)` (R143) -/
  | ld_a_mhl
  /-- `LD A,A` (R141) -/
  | ld_a_a
  /-- `ADD A,B` (R176) -/
  | add_a_b
  /-- `ADD A,C` (R176) -/
  | add_a_c
  /-- `ADD A,D` (R176) -/
  | add_a_d
  /-- `ADD A,E` (R176) -/
  | add_a_e
  /-- `ADD A,H` (R176) -/
  | add_a_h
  /-- `ADD A,L` (R176) -/
  | add_a_l
  /-- `ADD A,(HL)` (R176) -/
  | add_a_mhl
  /-- `ADD A,A` (R176) -/
  | add_a_a
  /-- `ADC A,B` (R177) -/
  | adc_a_b
  /-- `ADC A,C` (R177) -/
  | adc_a_c
  /-- `ADC A,D` (R177) -/
  | adc_a_d
  /-- `ADC A,E` (R177) -/
  | adc_a_e
  /-- `ADC A,H` (R177) -/
  | adc_a_h
  /-- `ADC A,L` (R177) -/
  | adc_a_l
  /-- `ADC A,(HL)` (R177) -/
  | adc_a_mhl
  /-- `ADC A,A` (R177) -/
  | adc_a_a
  /-- `SUB B` (R178) -/
  | sub_b
  /-- `SUB C` (R178) -/
  | sub_c
  /-- `SUB D` (R178) -/
  | sub_d
  /-- `SUB E` (R178) -/
  | sub_e
  /-- `SUB H` (R178) -/
  | sub_h
  /-- `SUB L` (R178) -/
  | sub_l
  /-- `SUB (HL)` (R178) -/
  | sub_mhl
  /-- `SUB A` (R178) -/
  | sub_a
  /-- `SBC A,B` (R179) -/
  | sbc_a_b
  /-- `SBC A,C` (R179) -/
  | sbc_a_c
  /-- `SBC A,D` (R179) -/
  | sbc_a_d
  /-- `SBC A,E` (R179) -/
  | sbc_a_e
  /-- `SBC A,H` (R179) -/
  | sbc_a_h
  /-- `SBC A,L` (R179) -/
  | sbc_a_l
  /-- `SBC A,(HL)` (R179) -/
  | sbc_a_mhl
  /-- `SBC A,A` (R179) -/
  | sbc_a_a
  /-- `AND B` (R180) -/
  | and_b
  /-- `AND C` (R180) -/
  | and_c
  /-- `AND D` (R180) -/
  | and_d
  /-- `AND E` (R180) -/
  | and_e
  /-- `AND H` (R180) -/
  | and_h
  /-- `AND L` (R180) -/
  | and_l
  /-- `AND (HL)` (R180) -/
  | and_mhl
  /-- `AND A` (R180) -/
  | and_a
  /-- `XOR B` (R181) -/
  | xor_b
  /-- `XOR C` (R181) -/
  | xor_c
  /-- `XOR D` (R181) -/
  | xor_d
  /-- `XOR E` (R181) -/
  | xor_e
  /-- `XOR H` (R181) -/
  | xor_h
  /-- `XOR L` (R181) -/
  | xor_l
  /-- `XOR (HL)` (R181) -/
  | xor_mhl
  /-- `XOR A` (R181) -/
  | xor_a
  /-- `OR B` (R182) -/
  | or_b
  /-- `OR C` (R182) -/
  | or_c
  /-- `OR D` (R182) -/
  | or_d
  /-- `OR E` (R182) -/
  | or_e
  /-- `OR H` (R182) -/
  | or_h
  /-- `OR L` (R182) -/
  | or_l
  /-- `OR (HL)` (R182) -/
  | or_mhl
  /-- `OR A` (R182) -/
  | or_a
  /-- `CP B` (R183) -/
  | cp_b
  /-- `CP C` (R183) -/
  | cp_c
  /-- `CP D` (R183) -/
  | cp_d
  /-- `CP E` (R183) -/
  | cp_e
  /-- `CP H` (R183) -/
  | cp_h
  /-- `CP L` (R183) -/
  | cp_l
  /-- `CP (HL)` (R183) -/
  | cp_mhl
  /-- `CP A` (R183) -/
  | cp_a
  /-- `RET NZ` (R253) -/
  | ret_nz
  /-- `POP BC` (R171) -/
  | pop_bc
  /-- `JP NZ,nn` (R246) -/
  | jp_nz_nn (nn : Word)
  /-- `JP nn` (R245) -/
  | jp_nn (nn : Word)
  /-- `CALL NZ,nn` (R251) -/
  | call_nz_nn (nn : Word)
  /-- `PUSH BC` (R169) -/
  | push_bc
  /-- `ADD A,n` (R176) -/
  | add_a_n (n : Byte)
  /-- `RST 0x00` (R257) -/
  | rst_00
  /-- `RET Z` (R253) -/
  | ret_z
  /-- `RET` (R252) -/
  | ret
  /-- `JP Z,nn` (R246) -/
  | jp_z_nn (nn : Word)
  /-- `CALL Z,nn` (R251) -/
  | call_z_nn (nn : Word)
  /-- `CALL nn` (R250) -/
  | call_nn (nn : Word)
  /-- `ADC A,n` (R177) -/
  | adc_a_n (n : Byte)
  /-- `RST 0x08` (R257) -/
  | rst_08
  /-- `RET NC` (R253) -/
  | ret_nc
  /-- `POP DE` (R171) -/
  | pop_de
  /-- `JP NC,nn` (R246) -/
  | jp_nc_nn (nn : Word)
  /-- One of the eleven illegal opcode bytes (R133, R268). -/
  | illegal (op : Byte)
  /-- `CALL NC,nn` (R251) -/
  | call_nc_nn (nn : Word)
  /-- `PUSH DE` (R169) -/
  | push_de
  /-- `SUB n` (R178) -/
  | sub_n (n : Byte)
  /-- `RST 0x10` (R257) -/
  | rst_10
  /-- `RET C` (R253) -/
  | ret_c
  /-- `RETI` (R254) -/
  | reti
  /-- `JP C,nn` (R246) -/
  | jp_c_nn (nn : Word)
  /-- `CALL C,nn` (R251) -/
  | call_c_nn (nn : Word)
  /-- `SBC A,n` (R179) -/
  | sbc_a_n (n : Byte)
  /-- `RST 0x18` (R257) -/
  | rst_18
  /-- `LDH (n),A` (R155) -/
  | ldh_mn_a (n : Byte)
  /-- `POP HL` (R171) -/
  | pop_hl
  /-- `LDH (C),A` (R153) -/
  | ldh_mc_a
  /-- `PUSH HL` (R169) -/
  | push_hl
  /-- `AND n` (R180) -/
  | and_n (n : Byte)
  /-- `RST 0x20` (R257) -/
  | rst_20
  /-- `ADD SP,e` (R209) -/
  | add_sp_e (e : Byte)
  /-- `JP HL` (R247) -/
  | jp_hl
  /-- `LD (nn),A` (R151) -/
  | ld_mnn_a (nn : Word)
  /-- `XOR n` (R181) -/
  | xor_n (n : Byte)
  /-- `RST 0x28` (R257) -/
  | rst_28
  /-- `LDH A,(n)` (R154) -/
  | ldh_a_mn (n : Byte)
  /-- `POP AF` (R172) -/
  | pop_af
  /-- `LDH A,(C)` (R152) -/
  | ldh_a_mc
  /-- `DI` (R263) -/
  | di
  /-- `PUSH AF` (R170) -/
  | push_af
  /-- `OR n` (R182) -/
  | or_n (n : Byte)
  /-- `RST 0x30` (R257) -/
  | rst_30
  /-- `LD HL,SP+e` (R210) -/
  | ld_hl_sp_e (e : Byte)
  /-- `LD SP,HL` (R168) -/
  | ld_sp_hl
  /-- `LD A,(nn)` (R150) -/
  | ld_a_mnn (nn : Word)
  /-- `EI` (R264) -/
  | ei
  /-- `CP n` (R183) -/
  | cp_n (n : Byte)
  /-- `RST 0x38` (R257) -/
  | rst_38
  /-- `RLC B` (R218) -/
  | rlc_b
  /-- `RLC C` (R218) -/
  | rlc_c
  /-- `RLC D` (R218) -/
  | rlc_d
  /-- `RLC E` (R218) -/
  | rlc_e
  /-- `RLC H` (R218) -/
  | rlc_h
  /-- `RLC L` (R218) -/
  | rlc_l
  /-- `RLC (HL)` (R218) -/
  | rlc_mhl
  /-- `RLC A` (R218) -/
  | rlc_a
  /-- `RRC B` (R219) -/
  | rrc_b
  /-- `RRC C` (R219) -/
  | rrc_c
  /-- `RRC D` (R219) -/
  | rrc_d
  /-- `RRC E` (R219) -/
  | rrc_e
  /-- `RRC H` (R219) -/
  | rrc_h
  /-- `RRC L` (R219) -/
  | rrc_l
  /-- `RRC (HL)` (R219) -/
  | rrc_mhl
  /-- `RRC A` (R219) -/
  | rrc_a
  /-- `RL B` (R220) -/
  | rl_b
  /-- `RL C` (R220) -/
  | rl_c
  /-- `RL D` (R220) -/
  | rl_d
  /-- `RL E` (R220) -/
  | rl_e
  /-- `RL H` (R220) -/
  | rl_h
  /-- `RL L` (R220) -/
  | rl_l
  /-- `RL (HL)` (R220) -/
  | rl_mhl
  /-- `RL A` (R220) -/
  | rl_a
  /-- `RR B` (R221) -/
  | rr_b
  /-- `RR C` (R221) -/
  | rr_c
  /-- `RR D` (R221) -/
  | rr_d
  /-- `RR E` (R221) -/
  | rr_e
  /-- `RR H` (R221) -/
  | rr_h
  /-- `RR L` (R221) -/
  | rr_l
  /-- `RR (HL)` (R221) -/
  | rr_mhl
  /-- `RR A` (R221) -/
  | rr_a
  /-- `SLA B` (R222) -/
  | sla_b
  /-- `SLA C` (R222) -/
  | sla_c
  /-- `SLA D` (R222) -/
  | sla_d
  /-- `SLA E` (R222) -/
  | sla_e
  /-- `SLA H` (R222) -/
  | sla_h
  /-- `SLA L` (R222) -/
  | sla_l
  /-- `SLA (HL)` (R222) -/
  | sla_mhl
  /-- `SLA A` (R222) -/
  | sla_a
  /-- `SRA B` (R223) -/
  | sra_b
  /-- `SRA C` (R223) -/
  | sra_c
  /-- `SRA D` (R223) -/
  | sra_d
  /-- `SRA E` (R223) -/
  | sra_e
  /-- `SRA H` (R223) -/
  | sra_h
  /-- `SRA L` (R223) -/
  | sra_l
  /-- `SRA (HL)` (R223) -/
  | sra_mhl
  /-- `SRA A` (R223) -/
  | sra_a
  /-- `SWAP B` (R224) -/
  | swap_b
  /-- `SWAP C` (R224) -/
  | swap_c
  /-- `SWAP D` (R224) -/
  | swap_d
  /-- `SWAP E` (R224) -/
  | swap_e
  /-- `SWAP H` (R224) -/
  | swap_h
  /-- `SWAP L` (R224) -/
  | swap_l
  /-- `SWAP (HL)` (R224) -/
  | swap_mhl
  /-- `SWAP A` (R224) -/
  | swap_a
  /-- `SRL B` (R225) -/
  | srl_b
  /-- `SRL C` (R225) -/
  | srl_c
  /-- `SRL D` (R225) -/
  | srl_d
  /-- `SRL E` (R225) -/
  | srl_e
  /-- `SRL H` (R225) -/
  | srl_h
  /-- `SRL L` (R225) -/
  | srl_l
  /-- `SRL (HL)` (R225) -/
  | srl_mhl
  /-- `SRL A` (R225) -/
  | srl_a
  /-- `BIT 0,B` (R236) -/
  | bit_0_b
  /-- `BIT 0,C` (R236) -/
  | bit_0_c
  /-- `BIT 0,D` (R236) -/
  | bit_0_d
  /-- `BIT 0,E` (R236) -/
  | bit_0_e
  /-- `BIT 0,H` (R236) -/
  | bit_0_h
  /-- `BIT 0,L` (R236) -/
  | bit_0_l
  /-- `BIT 0,(HL)` (R237) -/
  | bit_0_mhl
  /-- `BIT 0,A` (R236) -/
  | bit_0_a
  /-- `BIT 1,B` (R236) -/
  | bit_1_b
  /-- `BIT 1,C` (R236) -/
  | bit_1_c
  /-- `BIT 1,D` (R236) -/
  | bit_1_d
  /-- `BIT 1,E` (R236) -/
  | bit_1_e
  /-- `BIT 1,H` (R236) -/
  | bit_1_h
  /-- `BIT 1,L` (R236) -/
  | bit_1_l
  /-- `BIT 1,(HL)` (R237) -/
  | bit_1_mhl
  /-- `BIT 1,A` (R236) -/
  | bit_1_a
  /-- `BIT 2,B` (R236) -/
  | bit_2_b
  /-- `BIT 2,C` (R236) -/
  | bit_2_c
  /-- `BIT 2,D` (R236) -/
  | bit_2_d
  /-- `BIT 2,E` (R236) -/
  | bit_2_e
  /-- `BIT 2,H` (R236) -/
  | bit_2_h
  /-- `BIT 2,L` (R236) -/
  | bit_2_l
  /-- `BIT 2,(HL)` (R237) -/
  | bit_2_mhl
  /-- `BIT 2,A` (R236) -/
  | bit_2_a
  /-- `BIT 3,B` (R236) -/
  | bit_3_b
  /-- `BIT 3,C` (R236) -/
  | bit_3_c
  /-- `BIT 3,D` (R236) -/
  | bit_3_d
  /-- `BIT 3,E` (R236) -/
  | bit_3_e
  /-- `BIT 3,H` (R236) -/
  | bit_3_h
  /-- `BIT 3,L` (R236) -/
  | bit_3_l
  /-- `BIT 3,(HL)` (R237) -/
  | bit_3_mhl
  /-- `BIT 3,A` (R236) -/
  | bit_3_a
  /-- `BIT 4,B` (R236) -/
  | bit_4_b
  /-- `BIT 4,C` (R236) -/
  | bit_4_c
  /-- `BIT 4,D` (R236) -/
  | bit_4_d
  /-- `BIT 4,E` (R236) -/
  | bit_4_e
  /-- `BIT 4,H` (R236) -/
  | bit_4_h
  /-- `BIT 4,L` (R236) -/
  | bit_4_l
  /-- `BIT 4,(HL)` (R237) -/
  | bit_4_mhl
  /-- `BIT 4,A` (R236) -/
  | bit_4_a
  /-- `BIT 5,B` (R236) -/
  | bit_5_b
  /-- `BIT 5,C` (R236) -/
  | bit_5_c
  /-- `BIT 5,D` (R236) -/
  | bit_5_d
  /-- `BIT 5,E` (R236) -/
  | bit_5_e
  /-- `BIT 5,H` (R236) -/
  | bit_5_h
  /-- `BIT 5,L` (R236) -/
  | bit_5_l
  /-- `BIT 5,(HL)` (R237) -/
  | bit_5_mhl
  /-- `BIT 5,A` (R236) -/
  | bit_5_a
  /-- `BIT 6,B` (R236) -/
  | bit_6_b
  /-- `BIT 6,C` (R236) -/
  | bit_6_c
  /-- `BIT 6,D` (R236) -/
  | bit_6_d
  /-- `BIT 6,E` (R236) -/
  | bit_6_e
  /-- `BIT 6,H` (R236) -/
  | bit_6_h
  /-- `BIT 6,L` (R236) -/
  | bit_6_l
  /-- `BIT 6,(HL)` (R237) -/
  | bit_6_mhl
  /-- `BIT 6,A` (R236) -/
  | bit_6_a
  /-- `BIT 7,B` (R236) -/
  | bit_7_b
  /-- `BIT 7,C` (R236) -/
  | bit_7_c
  /-- `BIT 7,D` (R236) -/
  | bit_7_d
  /-- `BIT 7,E` (R236) -/
  | bit_7_e
  /-- `BIT 7,H` (R236) -/
  | bit_7_h
  /-- `BIT 7,L` (R236) -/
  | bit_7_l
  /-- `BIT 7,(HL)` (R237) -/
  | bit_7_mhl
  /-- `BIT 7,A` (R236) -/
  | bit_7_a
  /-- `RES 0,B` (R240) -/
  | res_0_b
  /-- `RES 0,C` (R240) -/
  | res_0_c
  /-- `RES 0,D` (R240) -/
  | res_0_d
  /-- `RES 0,E` (R240) -/
  | res_0_e
  /-- `RES 0,H` (R240) -/
  | res_0_h
  /-- `RES 0,L` (R240) -/
  | res_0_l
  /-- `RES 0,(HL)` (R241) -/
  | res_0_mhl
  /-- `RES 0,A` (R240) -/
  | res_0_a
  /-- `RES 1,B` (R240) -/
  | res_1_b
  /-- `RES 1,C` (R240) -/
  | res_1_c
  /-- `RES 1,D` (R240) -/
  | res_1_d
  /-- `RES 1,E` (R240) -/
  | res_1_e
  /-- `RES 1,H` (R240) -/
  | res_1_h
  /-- `RES 1,L` (R240) -/
  | res_1_l
  /-- `RES 1,(HL)` (R241) -/
  | res_1_mhl
  /-- `RES 1,A` (R240) -/
  | res_1_a
  /-- `RES 2,B` (R240) -/
  | res_2_b
  /-- `RES 2,C` (R240) -/
  | res_2_c
  /-- `RES 2,D` (R240) -/
  | res_2_d
  /-- `RES 2,E` (R240) -/
  | res_2_e
  /-- `RES 2,H` (R240) -/
  | res_2_h
  /-- `RES 2,L` (R240) -/
  | res_2_l
  /-- `RES 2,(HL)` (R241) -/
  | res_2_mhl
  /-- `RES 2,A` (R240) -/
  | res_2_a
  /-- `RES 3,B` (R240) -/
  | res_3_b
  /-- `RES 3,C` (R240) -/
  | res_3_c
  /-- `RES 3,D` (R240) -/
  | res_3_d
  /-- `RES 3,E` (R240) -/
  | res_3_e
  /-- `RES 3,H` (R240) -/
  | res_3_h
  /-- `RES 3,L` (R240) -/
  | res_3_l
  /-- `RES 3,(HL)` (R241) -/
  | res_3_mhl
  /-- `RES 3,A` (R240) -/
  | res_3_a
  /-- `RES 4,B` (R240) -/
  | res_4_b
  /-- `RES 4,C` (R240) -/
  | res_4_c
  /-- `RES 4,D` (R240) -/
  | res_4_d
  /-- `RES 4,E` (R240) -/
  | res_4_e
  /-- `RES 4,H` (R240) -/
  | res_4_h
  /-- `RES 4,L` (R240) -/
  | res_4_l
  /-- `RES 4,(HL)` (R241) -/
  | res_4_mhl
  /-- `RES 4,A` (R240) -/
  | res_4_a
  /-- `RES 5,B` (R240) -/
  | res_5_b
  /-- `RES 5,C` (R240) -/
  | res_5_c
  /-- `RES 5,D` (R240) -/
  | res_5_d
  /-- `RES 5,E` (R240) -/
  | res_5_e
  /-- `RES 5,H` (R240) -/
  | res_5_h
  /-- `RES 5,L` (R240) -/
  | res_5_l
  /-- `RES 5,(HL)` (R241) -/
  | res_5_mhl
  /-- `RES 5,A` (R240) -/
  | res_5_a
  /-- `RES 6,B` (R240) -/
  | res_6_b
  /-- `RES 6,C` (R240) -/
  | res_6_c
  /-- `RES 6,D` (R240) -/
  | res_6_d
  /-- `RES 6,E` (R240) -/
  | res_6_e
  /-- `RES 6,H` (R240) -/
  | res_6_h
  /-- `RES 6,L` (R240) -/
  | res_6_l
  /-- `RES 6,(HL)` (R241) -/
  | res_6_mhl
  /-- `RES 6,A` (R240) -/
  | res_6_a
  /-- `RES 7,B` (R240) -/
  | res_7_b
  /-- `RES 7,C` (R240) -/
  | res_7_c
  /-- `RES 7,D` (R240) -/
  | res_7_d
  /-- `RES 7,E` (R240) -/
  | res_7_e
  /-- `RES 7,H` (R240) -/
  | res_7_h
  /-- `RES 7,L` (R240) -/
  | res_7_l
  /-- `RES 7,(HL)` (R241) -/
  | res_7_mhl
  /-- `RES 7,A` (R240) -/
  | res_7_a
  /-- `SET 0,B` (R238) -/
  | set_0_b
  /-- `SET 0,C` (R238) -/
  | set_0_c
  /-- `SET 0,D` (R238) -/
  | set_0_d
  /-- `SET 0,E` (R238) -/
  | set_0_e
  /-- `SET 0,H` (R238) -/
  | set_0_h
  /-- `SET 0,L` (R238) -/
  | set_0_l
  /-- `SET 0,(HL)` (R239) -/
  | set_0_mhl
  /-- `SET 0,A` (R238) -/
  | set_0_a
  /-- `SET 1,B` (R238) -/
  | set_1_b
  /-- `SET 1,C` (R238) -/
  | set_1_c
  /-- `SET 1,D` (R238) -/
  | set_1_d
  /-- `SET 1,E` (R238) -/
  | set_1_e
  /-- `SET 1,H` (R238) -/
  | set_1_h
  /-- `SET 1,L` (R238) -/
  | set_1_l
  /-- `SET 1,(HL)` (R239) -/
  | set_1_mhl
  /-- `SET 1,A` (R238) -/
  | set_1_a
  /-- `SET 2,B` (R238) -/
  | set_2_b
  /-- `SET 2,C` (R238) -/
  | set_2_c
  /-- `SET 2,D` (R238) -/
  | set_2_d
  /-- `SET 2,E` (R238) -/
  | set_2_e
  /-- `SET 2,H` (R238) -/
  | set_2_h
  /-- `SET 2,L` (R238) -/
  | set_2_l
  /-- `SET 2,(HL)` (R239) -/
  | set_2_mhl
  /-- `SET 2,A` (R238) -/
  | set_2_a
  /-- `SET 3,B` (R238) -/
  | set_3_b
  /-- `SET 3,C` (R238) -/
  | set_3_c
  /-- `SET 3,D` (R238) -/
  | set_3_d
  /-- `SET 3,E` (R238) -/
  | set_3_e
  /-- `SET 3,H` (R238) -/
  | set_3_h
  /-- `SET 3,L` (R238) -/
  | set_3_l
  /-- `SET 3,(HL)` (R239) -/
  | set_3_mhl
  /-- `SET 3,A` (R238) -/
  | set_3_a
  /-- `SET 4,B` (R238) -/
  | set_4_b
  /-- `SET 4,C` (R238) -/
  | set_4_c
  /-- `SET 4,D` (R238) -/
  | set_4_d
  /-- `SET 4,E` (R238) -/
  | set_4_e
  /-- `SET 4,H` (R238) -/
  | set_4_h
  /-- `SET 4,L` (R238) -/
  | set_4_l
  /-- `SET 4,(HL)` (R239) -/
  | set_4_mhl
  /-- `SET 4,A` (R238) -/
  | set_4_a
  /-- `SET 5,B` (R238) -/
  | set_5_b
  /-- `SET 5,C` (R238) -/
  | set_5_c
  /-- `SET 5,D` (R238) -/
  | set_5_d
  /-- `SET 5,E` (R238) -/
  | set_5_e
  /-- `SET 5,H` (R238) -/
  | set_5_h
  /-- `SET 5,L` (R238) -/
  | set_5_l
  /-- `SET 5,(HL)` (R239) -/
  | set_5_mhl
  /-- `SET 5,A` (R238) -/
  | set_5_a
  /-- `SET 6,B` (R238) -/
  | set_6_b
  /-- `SET 6,C` (R238) -/
  | set_6_c
  /-- `SET 6,D` (R238) -/
  | set_6_d
  /-- `SET 6,E` (R238) -/
  | set_6_e
  /-- `SET 6,H` (R238) -/
  | set_6_h
  /-- `SET 6,L` (R238) -/
  | set_6_l
  /-- `SET 6,(HL)` (R239) -/
  | set_6_mhl
  /-- `SET 6,A` (R238) -/
  | set_6_a
  /-- `SET 7,B` (R238) -/
  | set_7_b
  /-- `SET 7,C` (R238) -/
  | set_7_c
  /-- `SET 7,D` (R238) -/
  | set_7_d
  /-- `SET 7,E` (R238) -/
  | set_7_e
  /-- `SET 7,H` (R238) -/
  | set_7_h
  /-- `SET 7,L` (R238) -/
  | set_7_l
  /-- `SET 7,(HL)` (R239) -/
  | set_7_mhl
  /-- `SET 7,A` (R238) -/
  | set_7_a
deriving DecidableEq, Repr

end Sys2Proof
end

