-- ==== Sys2Proof/Machine/Params.lean ====
section
/-! DEFINITION. What the OPEN parameters of 00_scope.md R7 mean, and the default that the spec recommends for each
(log 11 to 16, 30). -/

namespace Sys2Proof.Config

/-! ## The default of `TickCost` (R370; log 11) -/

/-- Rows 0x to 3x of R370's table, as pairs (taken, not taken). -/
def tickRows0 : List (List (Nat × Nat)) :=
  [[(4,4),(12,12),(8,8),(8,8),(4,4),(4,4),(8,8),(4,4),(20,20),(8,8),(8,8),(8,8),(4,4),(4,4),(8,8),(4,4)],
   [(4,4),(12,12),(8,8),(8,8),(4,4),(4,4),(8,8),(4,4),(12,12),(8,8),(8,8),(8,8),(4,4),(4,4),(8,8),(4,4)],
   [(12,8),(12,12),(8,8),(8,8),(4,4),(4,4),(8,8),(4,4),(12,8),(8,8),(8,8),(8,8),(4,4),(4,4),(8,8),(4,4)],
   [(12,8),(12,12),(8,8),(8,8),(12,12),(12,12),(12,12),(4,4),(12,8),(8,8),(8,8),(8,8),(4,4),(4,4),(8,8),(4,4)]]

/-- A row of R370's table in which only the columns 6 and E, the `(HL)` forms, cost 8. -/
def tickRowReg : List (Nat × Nat) :=
  [(4,4),(4,4),(4,4),(4,4),(4,4),(4,4),(8,8),(4,4),(4,4),(4,4),(4,4),(4,4),(4,4),(4,4),(8,8),(4,4)]

/-- Row 7x of R370's table: the stores through `(HL)`, and `HALT` in column 6. -/
def tickRow7 : List (Nat × Nat) :=
  [(8,8),(8,8),(8,8),(8,8),(8,8),(8,8),(4,4),(8,8),(4,4),(4,4),(4,4),(4,4),(4,4),(4,4),(8,8),(4,4)]

/-- Rows Cx to Fx of R370's table; an illegal opcode and the byte 0xCB have no cost of their own. -/
def tickRowsC : List (List (Nat × Nat)) :=
  [[(20,8),(12,12),(16,12),(16,16),(24,12),(16,16),(8,8),(16,16),(20,8),(16,16),(16,12),(0,0),(24,12),(24,24),(8,8),(16,16)],
   [(20,8),(12,12),(16,12),(0,0),(24,12),(16,16),(8,8),(16,16),(20,8),(16,16),(16,12),(0,0),(24,12),(0,0),(8,8),(16,16)],
   [(12,12),(12,12),(8,8),(0,0),(0,0),(16,16),(8,8),(16,16),(16,16),(4,4),(16,16),(0,0),(0,0),(0,0),(8,8),(16,16)],
   [(12,12),(12,12),(8,8),(4,4),(0,0),(16,16),(8,8),(16,16),(12,12),(8,8),(16,16),(4,4),(0,0),(0,0),(8,8),(16,16)]]

/-- R370's table, one row per high nibble. -/
def tickTable : List (List (Nat × Nat)) :=
  tickRows0 ++ [tickRowReg, tickRowReg, tickRowReg, tickRow7] ++
    [tickRowReg, tickRowReg, tickRowReg, tickRowReg] ++ tickRowsC

/-- R370's cost of an instruction of the secondary map, both bytes: 8 on a register; on `(HL)` 12 for `BIT`, 16 else. -/
def tickSecondary (sub : Nat) : Nat := if sub % 8 ≠ 6 then 8 else if sub / 64 = 1 then 12 else 16

/-! ## The defaults -/

/-- `LenCalls(ch, t)` by default: the length field counts up to 256 on channel 3, to 64 on the others (R344). -/
def lenDefault (ch t : Nat) : Nat := ((if ch = 3 then 256 else 64) - t + 3) / 4

/-- Every OPEN parameter at the default that R7 recommends. -/
def Params.default : Params where
  ticks := []
  secondaryTicks := []
  haltIdle := 4
  intDispatch := 20
  haltWithIme0Halts := true
  phaseOam := 80
  phaseTransfer := 172
  phaseHBlank := 204
  phaseVBlank := 456
  shade0 := 0xFFFFFFFF
  shade1 := 0xFFAAAAAA
  shade2 := 0xFF555555
  shade3 := 0xFF000000
  prioritySense := .source
  lens := []

/-- `PcmEncode` by default: a signed byte per sample after clamping to -128..127 (R348; log 16). -/
def pcmDefault (samples : List Int) : List Byte := samples.map (fun x => BitVec.ofInt 8 (min 127 (max (-128) x)))

/-! ## What the parameters give -/

/-- `TickCost(op, taken)` for an opcode of the primary map. At least 1, as R371 asks of every replacement: an entry 0
counts as 1 (log 30). -/
def Params.tickCost (p : Params) (op : Nat) (taken : Bool) : Nat :=
  let c := (p.ticks.lookup op).getD ((tickTable.getD (op / 16) []).getD (op % 16) (0, 0))
  max 1 (if taken then c.1 else c.2)

/-- `TickCost` of an instruction of the secondary map, both bytes, by its second byte; at least 1. -/
def Params.tickCostSecondary (p : Params) (sub : Nat) : Nat :=
  max 1 ((p.secondaryTicks.lookup sub).getD (tickSecondary sub))

/-- `HALT_IDLE_TICKS`; at least 1. -/
def Params.idleTicks (p : Params) : Nat := max 1 p.haltIdle

/-- `INT_DISPATCH_TICKS`; at least 1. -/
def Params.dispatchTicks (p : Params) : Nat := max 1 p.intDispatch

/-- `SHADE[s]`. -/
def Params.shade (p : Params) (s : BitVec 2) : BitVec 32 :=
  if s = 0 then p.shade0 else if s = 1 then p.shade1 else if s = 2 then p.shade2 else p.shade3

/-- `LenCalls(ch, t)`, `ch` from 1 to 4 (R344). -/
def Params.lenCalls (p : Params) (ch t : Nat) : Nat := (p.lens.lookup (ch, t)).getD (lenDefault ch t)

/-- The ticks of a visible line: its three phases (R310). -/
def Params.visibleLineTicks (p : Params) : Nat := p.phaseOam + p.phaseTransfer + p.phaseHBlank

/-- The ticks of a frame (R310, R372). -/
def Params.frameTicks (p : Params) : Nat := visibleLines * p.visibleLineTicks + vblankLines * p.phaseVBlank

end Sys2Proof.Config
end

