-- ==== Sys2Proof/Machine/State.lean ====
section
/-! DEFINITION. The state of the console core as plain data (10_state.md), in the spec's own blocks: what the
CPU Interpreter owns (`Cpu`) and what stands behind the Address-Space Dispatcher (`Bus`), with the OPEN record
`RESET` and the value of every piece after reset (R45 to R48). -/

namespace Sys2Proof.Machine

/-! ## Why the machine stops -/

/-- The two fatal classes of R270 and R271, with what they record. They are values of the state's `fault`
(R24): the spec gives the whole state after one (R272, R275) and lets every later Step leave it alone, so a step
answers a next state in which the reason is recorded, and never `Host.Outcome.fault` (log 6). -/
inductive Fault where
  /-- Class 1, raised by an illegal opcode byte (R268, R270), recorded with the byte. Safe: the spec's own effect. -/
  | unknownOpcode (op : Byte)
  /-- Class 2, raised by a byte access to a cartridge address that the variant does not map (R94, R271), recorded
  with the CPU address. Safe: the spec's own effect. -/
  | cartridgeAccess (a : Word)
deriving DecidableEq, Repr

/-- Why an instruction has no meaning in the model. -/
inductive Refusal where
  /-- Raised by `exec` alone, for an instruction that is not modelled yet (none is). Safe. -/
  | notModelled (mnemonic : String)
deriving DecidableEq, Repr

/-! ## Storage -/

/-- A byte array held sparsely: (offset, byte) pairs, offsets strictly rising, no byte 0x00 listed; an unlisted
offset reads 0x00, the reset contents of every array (R46; log 19). -/
abbrev Memory := List Host.Cell

/-! ## CPU -/

/-- The seven registers of R13. -/
structure Regs where
  a : Byte
  b : Byte
  c : Byte
  d : Byte
  e : Byte
  h : Byte
  l : Byte
deriving DecidableEq, Repr

/-- The four flags of R17. -/
structure Flags where
  z : Bool
  n : Bool
  h : Bool
  c : Bool
deriving DecidableEq, Repr

/-- The CPU state of 10_state.md section 1. -/
structure Cpu where
  regs : Regs
  flags : Flags
  sp : Word
  pc : Word
  /-- R19 -/
  ime : Bool
  /-- R20 -/
  halted : Bool
  /-- R21 -/
  stopped : Bool
  /-- R22, armed by `HALT`, consumed by the next opcode fetch -/
  skipInc : Bool
  /-- R23 -/
  ticks : Nat
  /-- R24 -/
  fault : Option Fault
deriving DecidableEq, Repr

/-! ## Memory-mapped registers -/

/-- The registers of R27 to R36, each at the width that is stored; the fixed bits (R40) appear on a read. -/
structure IoRegs where
  /-- `P1[5:4]` (R29): bit 1 is `P1.sel[5]` (action keys), bit 0 is `P1.sel[4]` (direction keys) -/
  p1Sel : BitVec 2
  sb : Byte
  sc : Byte
  div : Byte
  tima : Byte
  tma : Byte
  /-- `TAC[2:0]` (R31) -/
  tac : BitVec 3
  /-- `IF[4:0]` (R27) -/
  ifl : BitVec 5
  /-- `IE` (R28) -/
  ie : Byte
  lcdc : Byte
  /-- `STAT[6:3]` (R33) -/
  statEnable : BitVec 4
  /-- `STAT[1:0]`, the LCD mode (R33) -/
  mode : BitVec 2
  scy : Byte
  scx : Byte
  ly : Byte
  lyc : Byte
  dma : Byte
  bgp : Byte
  obp0 : Byte
  obp1 : Byte
  wy : Byte
  wx : Byte
deriving DecidableEq, Repr

/-- A decoded palette of R36. -/
structure Palette where
  c0 : BitVec 32
  c1 : BitVec 32
  c2 : BitVec 32
  c3 : BitVec 32
deriving DecidableEq, Repr

/-- The three decoded palettes of R36. -/
structure Palettes where
  bg : Palette
  obj0 : Palette
  obj1 : Palette
deriving DecidableEq, Repr

/-- The stored bytes of the sound registers (R37), of `NR52` and of the wave pattern memory (R38). -/
structure SoundRegs where
  nr10 : Byte
  nr11 : Byte
  nr12 : Byte
  nr13 : Byte
  nr14 : Byte
  nr21 : Byte
  nr22 : Byte
  nr23 : Byte
  nr24 : Byte
  nr30 : Byte
  nr31 : Byte
  nr32 : Byte
  nr33 : Byte
  nr34 : Byte
  nr41 : Byte
  nr42 : Byte
  nr43 : Byte
  nr44 : Byte
  nr50 : Byte
  nr51 : Byte
  nr52 : Byte
  wave : Memory
deriving DecidableEq, Repr

/-! ## Sound generators (R43) -/

/-- What every channel has (R43, R341). The spec gives the cycle position `pos` no width and no modulus: the model's
choice is a natural number that never wraps (log 31). -/
structure Voice where
  /-- moved by one for each stereo pair (R347), without bound (log 31) -/
  pos : Nat
  /-- counted in `Play` calls, a natural number (R341) -/
  len : Nat
  lenEnable : Bool
  toLeft : Bool
  toRight : Bool
deriving DecidableEq, Repr

/-- Envelope of channels 1, 2 and 4; `dirUp` is `env_dir = 1`; `count` has no stated width (log 31). -/
structure Envelope where
  initial : BitVec 4
  dirUp : Bool
  period : BitVec 3
  count : Nat
deriving DecidableEq, Repr

/-- Channels 1 and 2. -/
structure ToneChannel where
  voice : Voice
  env : Envelope
  amp : BitVec 4
  freq : BitVec 11
  duty : BitVec 2
deriving DecidableEq, Repr

/-- The sweep of channel 1; `dirDown` is `sweep_dir = 1`; `count` has no stated width (log 31). -/
structure Sweep where
  period : BitVec 3
  dirDown : Bool
  shift : BitVec 3
  count : Nat
deriving DecidableEq, Repr

/-- Channel 3; `wave` holds the 4-bit samples 0 to 31 sparsely, an unlisted one being 0. R43 gives it an amplitude as
it gives every channel, which no rule of R342 to R347 writes or reads (log 4). -/
structure WaveChannel where
  voice : Voice
  amp : BitVec 4
  freq : BitVec 11
  level : BitVec 2
  on : Bool
  wave : List (Nat × BitVec 4)
deriving DecidableEq, Repr

/-- Channel 4. -/
structure NoiseChannel where
  voice : Voice
  env : Envelope
  amp : BitVec 4
  shift : BitVec 4
  divisor : BitVec 3
  tableSelect : Bool
deriving DecidableEq, Repr

/-- The four channels and the mixer's master volumes. -/
structure Sound where
  ch1 : ToneChannel
  sweep : Sweep
  ch2 : ToneChannel
  ch3 : WaveChannel
  ch4 : NoiseChannel
  volLeft : BitVec 3
  volRight : BitVec 3
deriving DecidableEq, Repr

/-! ## Cartridge (R41) -/

/-- State of bank-switch variant 1 (R96). -/
structure Bank1 where
  low5 : BitVec 5
  hi2 : BitVec 2
  bankMode : Bool
deriving DecidableEq, Repr

/-- State of bank-switch variant 2 (R102). -/
structure Bank2 where
  romBank : BitVec 4
deriving DecidableEq, Repr

/-- The latched clock snapshot `rtc[0..4]` (R106). -/
structure Rtc where
  seconds : Byte
  minutes : Byte
  hours : Byte
  dayLow : Byte
  dayHigh : Byte
deriving DecidableEq, Repr

/-- State of bank-switch variant 3 (R106). -/
structure Bank3 where
  romBank : BitVec 7
  ramBank : Byte
  ramEnable : Bool
  latchReg : Byte
  rtc : Rtc
deriving DecidableEq, Repr

/-- The variant tag with the state that the variant has (R41, R92; log 20). -/
inductive Controller where
  | plain
  | bank1 (st : Bank1)
  | bank2 (st : Bank2)
  | bank3 (st : Bank3)
deriving DecidableEq, Repr

/-- The cartridge: its controller, the ROM image and its length, the external RAM (R26, R41). -/
structure Cartridge where
  ctl : Controller
  rom : Memory
  romLen : Nat
  xram : Memory
deriving DecidableEq, Repr

/-! ## Pixel and tile caches (R42; log 3) -/

/-- A pixel of a decoded background or window tile: colour index, and shade number under `BGP`. -/
structure BgPixel where
  ci : BitVec 2
  shade : BitVec 2
deriving DecidableEq, Repr

/-- A pixel of a decoded sprite tile: colour index, and shade number under `OBP0` and under `OBP1`. -/
structure ObjPixel where
  ci : BitVec 2
  shade0 : BitVec 2
  shade1 : BitVec 2
deriving DecidableEq, Repr

/-- The valid entries of the three caches, each 64 pixels row by row, by cell 0 to 1023 or by tile number, keys
strictly rising. A cell that is absent is one whose dirty flag is set. -/
structure TileCaches where
  bg : List (Nat × List BgPixel)
  window : List (Nat × List BgPixel)
  sprite : List (Nat × List ObjPixel)
deriving DecidableEq, Repr

/-! ## Driver and input (R44) -/

/-- The driver's accumulators. -/
structure Driver where
  carry : Nat
  divAcc : Nat
  timaAcc : Nat
deriving DecidableEq, Repr

/-- The eight named buttons, true when pressed. -/
structure Buttons where
  up : Bool
  down : Bool
  left : Bool
  right : Bool
  a : Bool
  b : Bool
  start : Bool
  select : Bool
deriving DecidableEq, Repr

/-- One row of the frame buffer, 160 pixels. -/
abbrev Line := List (BitVec 32)

/-- Everything behind the dispatcher, and what the driver owns. -/
structure Bus where
  /-- the OPEN parameters of 00_scope.md R7, an argument of the machine that nothing writes (log 30) -/
  cfg : Config.Params
  vram : Memory
  wram : Memory
  oam : Memory
  hram : Memory
  io : IoRegs
  pal : Palettes
  sregs : SoundRegs
  snd : Sound
  cart : Cartridge
  caches : TileCaches
  drv : Driver
  /-- the frame buffer by row, rows strictly rising, no blank row listed; an unlisted row is 160 times `SHADE[0]` (log 21) -/
  fb : List (Nat × Line)
  pressed : Buttons
  /-- the model's own: how many draws have been taken (log 5) -/
  draws : Nat
deriving DecidableEq, Repr

/-- The state of the machine. -/
structure State where
  cpu : Cpu
  bus : Bus
deriving DecidableEq, Repr

/-! ## Reset -/

/-- R45. -/
def Cpu.reset : Cpu where
  regs := { a := 0x01, b := 0x00, c := 0x13, d := 0x00, e := 0xD8, h := 0x01, l := 0x4D }
  flags := { z := true, n := false, h := true, c := true }
  sp := 0xFFFE
  pc := 0x0100
  ime := false
  halted := false
  stopped := false
  skipInc := false
  ticks := 0
  fault := none

/-- R47, R48 (`STAT[1:0]`). -/
def IoRegs.reset : IoRegs where
  p1Sel := 0
  sb := 0x00
  sc := 0x00
  div := 0x00
  tima := 0x00
  tma := 0x00
  tac := 0
  ifl := 0
  ie := 0x00
  lcdc := 0x91
  statEnable := 0
  mode := 0
  scy := 0x00
  scx := 0x00
  ly := 0x00
  lyc := 0x00
  dma := 0x00
  bgp := 0xFC
  obp0 := 0xFF
  obp1 := 0xFF
  wy := 0x00
  wx := 0x00

/-- R47. -/
def SoundRegs.reset : SoundRegs where
  nr10 := 0x80
  nr11 := 0xBF
  nr12 := 0xF3
  nr13 := 0x00
  nr14 := 0xBF
  nr21 := 0x3F
  nr22 := 0x00
  nr23 := 0x00
  nr24 := 0xBF
  nr30 := 0x7F
  nr31 := 0xFF
  nr32 := 0x9F
  nr33 := 0x00
  nr34 := 0xBF
  nr41 := 0xFF
  nr42 := 0x00
  nr43 := 0x00
  nr44 := 0xBF
  nr50 := 0x77
  nr51 := 0xF3
  nr52 := 0xF1
  wave := []

/-- The running fields that every channel has (R43, R47). -/
structure Running where
  pos : Nat
  len : Nat
  amp : BitVec 4
deriving DecidableEq, Repr

/-- The running fields of the four channels with the envelope counters of channels 1, 2 and 4 and the sweep counter of
channel 1 (R43, R47). -/
structure SoundRunning where
  ch1 : Running
  ch2 : Running
  ch3 : Running
  ch4 : Running
  envCount1 : Nat
  envCount2 : Nat
  envCount4 : Nat
  sweepCount : Nat
deriving DecidableEq, Repr

/-- The OPEN record `RESET` (00_scope.md R7; R45 to R48): every reset value that no other part of the state fixes. The
decoded palettes and the parameters of the sound generators follow from the registers (R47), and external RAM is the
restored bytes or zero (R46). -/
structure Reset where
  cpu : Cpu
  vram : Memory
  wram : Memory
  oam : Memory
  hram : Memory
  io : IoRegs
  sregs : SoundRegs
  running : SoundRunning
  bank1 : Bank1
  bank2 : Bank2
  bank3 : Bank3
  /-- the tiles whose dirty flag is clear, with their pixels; every other flag is set (log 3) -/
  caches : TileCaches
  drv : Driver
  fb : List (Nat × Line)
  pressed : Buttons
deriving DecidableEq, Repr

/-- R47: the running fields of a channel that has not been restarted. -/
def Running.reset : Running where
  pos := 0
  len := 0
  amp := 0

/-- R47: every running field 0. -/
def SoundRunning.reset : SoundRunning where
  ch1 := .reset
  ch2 := .reset
  ch3 := .reset
  ch4 := .reset
  envCount1 := 0
  envCount2 := 0
  envCount4 := 0
  sweepCount := 0

/-- R48: every dirty flag set. -/
def TileCaches.allDirty : TileCaches where
  bg := []
  window := []
  sprite := []

/-- The default of `RESET` (R45 to R48; log 1). -/
def Reset.default : Reset where
  cpu := .reset
  vram := []
  wram := []
  oam := []
  hram := []
  io := .reset
  sregs := .reset
  running := .reset
  bank1 := { low5 := 1, hi2 := 0, bankMode := false }
  bank2 := { romBank := 1 }
  bank3 := { romBank := 1, ramBank := 0, ramEnable := false, latchReg := 0xFF,
             rtc := { seconds := 0, minutes := 0, hours := 0, dayLow := 0, dayHigh := 0 } }
  caches := .allDirty
  drv := { carry := 0, divAcc := 0, timaAcc := 0 }
  fb := []
  pressed := { up := false, down := false, left := false, right := false, a := false, b := false,
               start := false, select := false }

/-- The decoded palette of a palette register under the shades of a record of parameters (R36, R47). -/
def Palette.ofRegister (p : Config.Params) (v : Byte) : Palette where
  c0 := p.shade (v.extractLsb' 0 2)
  c1 := p.shade (v.extractLsb' 2 2)
  c2 := p.shade (v.extractLsb' 4 2)
  c3 := p.shade (v.extractLsb' 6 2)

/-- What every channel has at reset: the running fields as given, the length flag and the routing of channel `k + 1`
those of its registers (R47; 60_exceptions.md R342). -/
def Voice.ofRegs (q : Running) (k : Nat) (nrx4 nr51 : Byte) : Voice where
  pos := q.pos
  len := q.len
  lenEnable := nrx4.getLsbD 6
  toLeft := nr51.getLsbD (4 + k)
  toRight := nr51.getLsbD k

/-- An envelope at reset: by its register, the counter as given (R47; 60_exceptions.md R342). -/
def Envelope.ofRegister (count : Nat) (v : Byte) : Envelope where
  initial := v.extractLsb' 4 4
  dirUp := v.getLsbD 3
  period := v.extractLsb' 0 3
  count := count

/-- The 4-bit samples of the wave pattern memory, the high nibble first, no 0 listed (R38). -/
def waveSamples (m : Memory) : List (Nat × BitVec 4) :=
  (m.flatMap fun c => [(2 * c.1, c.2.extractLsb' 4 4), (2 * c.1 + 1, c.2.extractLsb' 0 4)]).filter (fun c => c.2 ≠ 0)

/-- The sound generators at reset (R47): the parameters as 60_exceptions.md R342 decodes them from the registers with
the trigger bits ignored, the running fields as given. -/
def Sound.ofRegs (q : SoundRunning) (g : SoundRegs) : Sound where
  ch1 := { voice := .ofRegs q.ch1 0 g.nr14 g.nr51, env := .ofRegister q.envCount1 g.nr12, amp := q.ch1.amp,
           freq := g.nr14.extractLsb' 0 3 ++ g.nr13, duty := g.nr11.extractLsb' 6 2 }
  sweep := { period := g.nr10.extractLsb' 4 3, dirDown := g.nr10.getLsbD 3, shift := g.nr10.extractLsb' 0 3,
             count := q.sweepCount }
  ch2 := { voice := .ofRegs q.ch2 1 g.nr24 g.nr51, env := .ofRegister q.envCount2 g.nr22, amp := q.ch2.amp,
           freq := g.nr24.extractLsb' 0 3 ++ g.nr23, duty := g.nr21.extractLsb' 6 2 }
  ch3 := { voice := .ofRegs q.ch3 2 g.nr34 g.nr51, amp := q.ch3.amp, freq := g.nr34.extractLsb' 0 3 ++ g.nr33,
           level := g.nr32.extractLsb' 5 2, on := g.nr30.getLsbD 7, wave := waveSamples g.wave }
  ch4 := { voice := .ofRegs q.ch4 3 g.nr44 g.nr51, env := .ofRegister q.envCount4 g.nr42, amp := q.ch4.amp,
           shift := g.nr43.extractLsb' 4 4, divisor := g.nr43.extractLsb' 0 3, tableSelect := g.nr43.getLsbD 3 }
  volLeft := g.nr50.extractLsb' 4 3
  volRight := g.nr50.extractLsb' 0 3

/-- The cartridge of `State.reset`: a blank image of the smallest accepted length, which selects Plain (R92,
R116, R357; log 2). -/
def Cartridge.blank : Cartridge where
  ctl := .plain
  rom := []
  romLen := 0x8000
  xram := []

/-- What stands behind the dispatcher at reset, about a given cartridge (R46 to R48). -/
def Bus.atReset (p : Config.Params) (r : Reset) (cart : Cartridge) : Bus where
  cfg := p
  vram := r.vram
  wram := r.wram
  oam := r.oam
  hram := r.hram
  io := r.io
  pal := { bg := .ofRegister p r.io.bgp, obj0 := .ofRegister p r.io.obp0, obj1 := .ofRegister p r.io.obp1 }
  sregs := r.sregs
  snd := .ofRegs r.running r.sregs
  cart := cart
  caches := r.caches
  drv := r.drv
  fb := r.fb
  pressed := r.pressed
  draws := 0

/-- The machine after reset under given parameters, reset record and cartridge (00_scope.md R7; R350 to R352). -/
def State.atReset (p : Config.Params) (r : Reset) (cart : Cartridge) : State where
  cpu := r.cpu
  bus := .atReset p r cart

/-- The machine right after reset: every OPEN parameter and `RESET` at the default (log 1, 30), around the blank
cartridge of log 2. -/
def State.reset : State := .atReset .default .default .blank

end Sys2Proof.Machine
end

