-- ==== Sys2Proof/Machine/Memory.lean ====
section
/-! DEFINITION. Sparse storage: a list of (key, value) pairs with keys strictly rising and no value equal to the
default, which an unlisted key reads as (10_state.md R25, R26, R44, R46; log 19). -/

namespace Sys2Proof.Machine

/-- The value listed for a key. -/
def Cells.lookup {α : Type} (m : List (Nat × α)) (k : Nat) : Option α :=
  match m with
  | [] => none
  | (j, v) :: m => if j = k then some v else Cells.lookup m k

/-- The value at a key, `d` where it is not listed. -/
def Cells.read {α : Type} (d : α) (m : List (Nat × α)) (k : Nat) : α :=
  (Cells.lookup m k).getD d

/-- The list without a key. -/
def Cells.erase {α : Type} (m : List (Nat × α)) (k : Nat) : List (Nat × α) :=
  m.filter (fun c => c.1 ≠ k)

/-- A key put in its place among rising keys. -/
def Cells.insert {α : Type} (m : List (Nat × α)) (k : Nat) (v : α) : List (Nat × α) :=
  match m with
  | [] => [(k, v)]
  | (j, w) :: m => if k < j then (k, v) :: (j, w) :: m else (j, w) :: Cells.insert m k v

/-- A write: the key is listed with its new value, or not at all where that is the default. -/
def Cells.write {α : Type} [DecidableEq α] (d : α) (m : List (Nat × α)) (k : Nat) (v : α) : List (Nat × α) :=
  if v = d then Cells.erase m k else Cells.insert (Cells.erase m k) k v

/-- Keys rise strictly from `lo` and no value is the default. -/
def Cells.wfFrom {α : Type} [DecidableEq α] (d : α) (lo : Nat) (m : List (Nat × α)) : Bool :=
  match m with
  | [] => true
  | (k, v) :: m => decide (lo ≤ k) && decide (v ≠ d) && Cells.wfFrom d (k + 1) m

/-- Every key is below a bound. -/
def Cells.below {α : Type} (n : Nat) (m : List (Nat × α)) : Bool :=
  m.all (fun c => decide (c.1 < n))

/-- The byte at an offset. -/
def Memory.read (m : Memory) (k : Nat) : Byte := Cells.read 0 m k

/-- The array after a byte is stored at an offset. -/
def Memory.write (m : Memory) (k : Nat) (v : Byte) : Memory := Cells.write 0 m k v

/-- The canonical form of an array. -/
def Memory.wf (m : Memory) : Bool := Cells.wfFrom 0 0 m

/-- The array that holds the bytes of a list from an offset up. -/
def Memory.ofBytes (k : Nat) (bytes : List Byte) : Memory :=
  match bytes with
  | [] => []
  | v :: rest => if v = 0 then Memory.ofBytes (k + 1) rest else (k, v) :: Memory.ofBytes (k + 1) rest

/-- `n` bytes of the array from an offset up. -/
def Memory.bytes (m : Memory) (k n : Nat) : List Byte :=
  match n with
  | 0 => []
  | n + 1 => m.read k :: Memory.bytes m (k + 1) n

end Sys2Proof.Machine
end

