-- ==== Sys2Proof/Machine/Cartridge.lean ====
section
/-! DEFINITION. The cartridge controllers: the address translator of four variants (20_memory.md R90 to R117). -/

namespace Sys2Proof.Machine

/-- What a controller makes of a CPU address (R117). `disabled` is variant 3's window with `ram_enable = 0` (R110). -/
inductive Target where
  | rom (offset : Nat)
  | ram (offset : Nat)
  | rtc (index : Nat)
  | disabled
  | fatal
deriving DecidableEq, Repr

/-- `rom_bank_eff` (R93, R99, R104, R108). -/
def Controller.romBankEff (c : Controller) : Nat :=
  match c with
  | .plain => 1
  | .bank1 st => if st.bankMode then st.low5.toNat else st.hi2.toNat * 32 + st.low5.toNat
  | .bank2 st => st.romBank.toNat
  | .bank3 st => st.romBank.toNat

/-- `ram_bank_eff` of variant 1 (R99). -/
def Bank1.ramBankEff (st : Bank1) : Nat := if st.bankMode then st.hi2.toNat else 0

/-- An offset into the image, fatal when it is not below the image's length (R93). -/
def Cartridge.romTarget (c : Cartridge) (offset : Nat) : Target :=
  if offset < c.romLen then .rom offset else .fatal

/-- Variant 3's external window at offset `o` (R110). -/
def Bank3.windowTarget (st : Bank3) (o : Nat) : Target :=
  if st.ramEnable then
    if st.ramBank.toNat < 4 then .ram (st.ramBank.toNat * 0x2000 + o)
    else if 0x08 ≤ st.ramBank.toNat ∧ st.ramBank.toNat ≤ 0x0C then .rtc (st.ramBank.toNat - 8)
    else .fatal
  else .disabled

/-- The external window 0xA000 to 0xBFFF at offset `o` (R95, R100, R104, R110): a read of Plain's is fatal. -/
def Controller.windowTarget (c : Controller) (o : Nat) : Target :=
  match c with
  | .plain => .fatal
  | .bank1 st => .ram (st.ramBankEff * 0x2000 + o)
  | .bank2 _ => if o < 0x200 then .ram o else .fatal
  | .bank3 st => st.windowTarget o

/-- What a read of a delegated address reaches (R93, R117). -/
def Cartridge.target (c : Cartridge) (a : Nat) : Target :=
  if a < 0x4000 then c.romTarget a
  else if a < 0x8000 then c.romTarget (c.ctl.romBankEff * 0x4000 + (a - 0x4000))
  else c.ctl.windowTarget (a - 0xA000)

/-- The byte an external RAM keeps of a written one, and shows of a kept one: variant 2's upper nibble is not
stored and reads 0 (R104; log 22). -/
def Controller.ramByte (c : Controller) (v : Byte) : Byte :=
  match c with
  | .bank2 _ => v &&& 0x0F
  | _ => v

/-- A field of the clock snapshot (R110). -/
def Rtc.get (r : Rtc) (i : Nat) : Byte :=
  match i with
  | 0 => r.seconds
  | 1 => r.minutes
  | 2 => r.hours
  | 3 => r.dayLow
  | _ => r.dayHigh

/-- The snapshot with a field written (R110). -/
def Rtc.set (r : Rtc) (i : Nat) (v : Byte) : Rtc :=
  match i with
  | 0 => { r with seconds := v }
  | 1 => { r with minutes := v }
  | 2 => { r with hours := v }
  | 3 => { r with dayLow := v }
  | _ => { r with dayHigh := v }

/-- Whether a read of a delegated address is not fatal (R94). -/
def Cartridge.readable (c : Cartridge) (a : Nat) : Bool := c.target a ≠ .fatal

/-- The byte a read of a delegated address returns; its value where the read is fatal is irrelevant (R55). -/
def Cartridge.value (c : Cartridge) (a : Nat) : Byte :=
  match c.target a with
  | .rom o => c.rom.read o
  | .ram o => c.ctl.ramByte (c.xram.read o)
  | .rtc i =>
    match c.ctl with
    | .bank3 st => st.rtc.get i
    | _ => 0xFF
  | .disabled => 0xFF
  | .fatal => 0xFF

/-- `RtcNow()` at draw number `n`, each field in its range (R109; log 9). -/
def rtcNow (n : Nat) : Rtc where
  seconds := BitVec.ofNat 8 (Config.rtcSeconds n).val
  minutes := BitVec.ofNat 8 (Config.rtcMinutes n).val
  hours := BitVec.ofNat 8 (Config.rtcHours n).val
  dayLow := Config.rtcDayLow n
  dayHigh := Config.rtcDayHigh n

/-- Variant 1's control registers (R97, R98). -/
def Bank1.control (st : Bank1) (a : Nat) (v : Byte) : Bank1 :=
  if a < 0x2000 then st
  else if a < 0x4000 then { st with low5 := if v.extractLsb' 0 5 = 0 then 1 else v.extractLsb' 0 5 }
  else if a < 0x6000 then { st with hi2 := v.extractLsb' 0 2 }
  else { st with bankMode := v.getLsbD 0 }

/-- Variant 2's control register (R103). -/
def Bank2.control (st : Bank2) (a : Nat) (v : Byte) : Bank2 :=
  if 0x2000 ≤ a ∧ a < 0x4000 then { st with romBank := v.extractLsb' 0 4 } else st

/-- Whether a write takes a clock snapshot: 0x01 over a latch register that holds 0x00 (R109). -/
def Bank3.latches (st : Bank3) (a : Nat) (v : Byte) : Bool :=
  decide (0x6000 ≤ a) && decide (st.latchReg = 0x00) && decide (v = 0x01)

/-- Variant 3's control registers (R107, R109); `now` is `RtcNow()`. -/
def Bank3.control (st : Bank3) (a : Nat) (v : Byte) (now : Rtc) : Bank3 :=
  if a < 0x2000 then { st with ramEnable := decide (v.extractLsb' 0 4 = 0xA) }
  else if a < 0x4000 then { st with romBank := if v.extractLsb' 0 7 = 0 then 1 else v.extractLsb' 0 7 }
  else if a < 0x6000 then { st with ramBank := v }
  else { st with rtc := if st.latches a v then now else st.rtc, latchReg := v }

/-- A write below 0x8000 (R95, R97, R103, R107). -/
def Controller.control (c : Controller) (a : Nat) (v : Byte) (now : Rtc) : Controller :=
  match c with
  | .plain => .plain
  | .bank1 st => .bank1 (st.control a v)
  | .bank2 st => .bank2 (st.control a v)
  | .bank3 st => .bank3 (st.control a v now)

/-- Whether a write draws a clock reading (R109). -/
def Cartridge.latches (c : Cartridge) (a : Nat) (v : Byte) : Bool :=
  match c.ctl with
  | .bank3 st => decide (a < 0x8000) && st.latches a v
  | _ => false

/-- Whether a write to a delegated address is not fatal (R94): Plain ignores every write (R95). -/
def Cartridge.writable (c : Cartridge) (a : Nat) : Bool :=
  decide (a < 0x8000) || decide (c.ctl = .plain) || c.readable a

/-- The cartridge after a write to a delegated address that is not fatal (R95 to R110). -/
def Cartridge.write (c : Cartridge) (a : Nat) (v : Byte) (now : Rtc) : Cartridge :=
  if a < 0x8000 then { c with ctl := c.ctl.control a v now }
  else
    match c.ctl.windowTarget (a - 0xA000) with
    | .ram o => { c with xram := c.xram.write o (c.ctl.ramByte v) }
    | .rtc i =>
      match c.ctl with
      | .bank3 st => { c with ctl := .bank3 { st with rtc := st.rtc.set i v } }
      | _ => c
    | _ => c

/-! ## Construction and saving (R91, R92, R111 to R116) -/

/-- The controller a cartridge-type byte selects, with its state of the reset record (R92, R96, R102, R106;
10_state.md R48). -/
def Controller.ofType (r : Reset) (t : Byte) : Option Controller :=
  match t.toNat with
  | 0x00 => some .plain
  | 0x01 | 0x02 | 0x03 => some (.bank1 r.bank1)
  | 0x05 | 0x06 => some (.bank2 r.bank2)
  | 0x0F | 0x10 | 0x11 | 0x12 | 0x13 => some (.bank3 r.bank3)
  | _ => none

/-- The size of a variant's external RAM (R92). -/
def Controller.xramSize (c : Controller) : Nat :=
  match c with
  | .plain => 0
  | .bank1 _ => 32768
  | .bank2 _ => 512
  | .bank3 _ => 32768

/-- The external RAM at construction: the saved bytes where their number is the variant's, else zero (R46, R112). -/
def Controller.restore (c : Controller) (saved : Option (List Byte)) : Memory :=
  match saved with
  | some bytes => if bytes.length = c.xramSize then Memory.ofBytes 0 bytes else []
  | none => []

/-- A cartridge from an image and what `Load` returned; none where the image is malformed (R116; log 27). -/
def Cartridge.ofImage (r : Reset) (image : List Byte) (saved : Option (List Byte)) : Option Cartridge :=
  if image.length < 0x0150 ∨ image.length < 0x8000 ∨ image.length % 0x4000 ≠ 0 then none
  else
    let rom := Memory.ofBytes 0 image
    match Controller.ofType r (rom.read 0x0147) with
    | none => none
    | some ctl => some { ctl := ctl, rom := rom, romLen := image.length, xram := ctl.restore saved }

/-- `GetSavedData()` (R95, R101, R105, R111, R113). -/
def Cartridge.savedData (c : Cartridge) : Option (List Byte) :=
  match c.ctl with
  | .plain => none
  | ctl => some (c.xram.bytes 0 ctl.xramSize)

/-- The title, ROM bytes 0x0134 to 0x0142 up to the first 0x00 (R91; 60_exceptions.md R338). -/
def Cartridge.title (c : Cartridge) : List Byte :=
  (c.rom.bytes 0x0134 15).takeWhile (fun v => v ≠ 0)

/-- The ROM-size code, read and kept, from which nothing is sized (R91). -/
def Cartridge.romSizeCode (c : Cartridge) : Byte := c.rom.read 0x0148

/-- The RAM-size code, read and kept, from which nothing is sized (R91). -/
def Cartridge.ramSizeCode (c : Cartridge) : Byte := c.rom.read 0x0149

/-- Whether the header checksum agrees (R114); a mismatch changes no state (R115). -/
def Cartridge.headerChecksumOk (c : Cartridge) : Bool :=
  (c.rom.bytes 0x0134 25).foldl (fun x v => x - v - 1) (0 : Byte) = c.rom.read 0x014D

/-- Whether the whole-image checksum agrees (R114); a mismatch changes no state (R115). Unlisted bytes add nothing. -/
def Cartridge.imageChecksumOk (c : Cartridge) : Bool :=
  c.rom.foldl (fun x cell => if cell.1 = 0x014E ∨ cell.1 = 0x014F then x else x + cell.2.setWidth 16) (0 : Word)
    = word (c.rom.read 0x014E) (c.rom.read 0x014F)

end Sys2Proof.Machine
end

