-- ==== Sys2Proof/Machine/Sound.lean ====
section
/-! DEFINITION. The Sound Synthesizer's control side and playback (60_exceptions.md R341 to R348). -/

namespace Sys2Proof.Machine

/-! ## The registers by name -/

/-- The sound registers of 10_state.md R37 and R38, `NR52` among them. -/
inductive SoundReg where
  | nr10 | nr11 | nr12 | nr13 | nr14
  | nr21 | nr22 | nr23 | nr24
  | nr30 | nr31 | nr32 | nr33 | nr34
  | nr41 | nr42 | nr43 | nr44
  | nr50 | nr51 | nr52
deriving DecidableEq, Repr

/-- The stored byte (20_memory.md R80: no read mask). -/
def SoundRegs.get (s : SoundRegs) (r : SoundReg) : Byte :=
  match r with
  | .nr10 => s.nr10 | .nr11 => s.nr11 | .nr12 => s.nr12 | .nr13 => s.nr13 | .nr14 => s.nr14
  | .nr21 => s.nr21 | .nr22 => s.nr22 | .nr23 => s.nr23 | .nr24 => s.nr24
  | .nr30 => s.nr30 | .nr31 => s.nr31 | .nr32 => s.nr32 | .nr33 => s.nr33 | .nr34 => s.nr34
  | .nr41 => s.nr41 | .nr42 => s.nr42 | .nr43 => s.nr43 | .nr44 => s.nr44
  | .nr50 => s.nr50 | .nr51 => s.nr51 | .nr52 => s.nr52

/-- Storing a byte (20_memory.md R73). -/
def SoundRegs.set (s : SoundRegs) (r : SoundReg) (v : Byte) : SoundRegs :=
  match r with
  | .nr10 => { s with nr10 := v } | .nr11 => { s with nr11 := v } | .nr12 => { s with nr12 := v }
  | .nr13 => { s with nr13 := v } | .nr14 => { s with nr14 := v }
  | .nr21 => { s with nr21 := v } | .nr22 => { s with nr22 := v }
  | .nr23 => { s with nr23 := v } | .nr24 => { s with nr24 := v }
  | .nr30 => { s with nr30 := v } | .nr31 => { s with nr31 := v } | .nr32 => { s with nr32 := v }
  | .nr33 => { s with nr33 := v } | .nr34 => { s with nr34 := v }
  | .nr41 => { s with nr41 := v } | .nr42 => { s with nr42 := v }
  | .nr43 => { s with nr43 := v } | .nr44 => { s with nr44 := v }
  | .nr50 => { s with nr50 := v } | .nr51 => { s with nr51 := v } | .nr52 => { s with nr52 := v }

/-! ## Register writes (R342, R343) -/

/-- The count of calls of a length register of channel `ch` (R342, R344): its low six bits, on channel 3 all eight. -/
def lenOf (p : Config.Params) (ch : Nat) (v : Byte) : Nat :=
  p.lenCalls ch (if ch = 3 then v.toNat else (v.extractLsb' 0 6).toNat)

/-- `NR12`, `NR22`, `NR42`; the counter is not touched. -/
def Envelope.load (e : Envelope) (v : Byte) : Envelope :=
  { e with initial := v.extractLsb' 4 4, dirUp := v.getLsbD 3, period := v.extractLsb' 0 3 }

/-- `ch.freq[7:0] <- v`. -/
def setFreqLow (f : BitVec 11) (v : Byte) : BitVec 11 := f.extractLsb' 8 3 ++ v

/-- `ch.freq[10:8] <- v[2:0]`. -/
def setFreqHigh (f : BitVec 11) (v : Byte) : BitVec 11 := v.extractLsb' 0 3 ++ f.extractLsb' 0 8

/-- `Restart` of what every channel has: the length from a stored length register, the position 0 (R343). -/
def Voice.restart (c : Voice) (len : Nat) : Voice := { c with len := len, pos := 0 }

/-- `Restart` of a tone channel, `len` being the calls of its stored `NRx1` (R343). -/
def ToneChannel.restart (c : ToneChannel) (len : Nat) : ToneChannel :=
  { c with voice := c.voice.restart len, amp := c.env.initial, env := { c.env with count := 0 } }

/-- `Restart` of channel 3, `len` being the calls of the stored `NR31` (R343); its amplitude stays (log 4). -/
def WaveChannel.restart (c : WaveChannel) (len : Nat) : WaveChannel :=
  { c with voice := c.voice.restart len }

/-- `Restart` of channel 4, `len` being the calls of the stored `NR41` (R343). -/
def NoiseChannel.restart (c : NoiseChannel) (len : Nat) : NoiseChannel :=
  { c with voice := c.voice.restart len, amp := c.env.initial, env := { c.env with count := 0 } }

/-- A length register's count of calls (`NR11`, `NR21`, `NR31`, `NR41`). -/
def Voice.loadLength (c : Voice) (len : Nat) : Voice := { c with len := len }

/-- `NR11`, `NR21`. -/
def ToneChannel.loadDuty (c : ToneChannel) (len : Nat) (v : Byte) : ToneChannel :=
  { c with duty := v.extractLsb' 6 2, voice := c.voice.loadLength len }

/-- `NR12`, `NR22`. -/
def ToneChannel.loadEnvelope (c : ToneChannel) (v : Byte) : ToneChannel := { c with env := c.env.load v }

/-- `NR13`, `NR23`. -/
def ToneChannel.loadFreqLow (c : ToneChannel) (v : Byte) : ToneChannel := { c with freq := setFreqLow c.freq v }

/-- `NR14`, `NR24`: the parameters first, then the restart where the trigger bit is set (R342, R343). -/
def ToneChannel.loadFreqHigh (c : ToneChannel) (len : Nat) (v : Byte) : ToneChannel :=
  let c := { c with freq := setFreqHigh c.freq v, voice := { c.voice with lenEnable := v.getLsbD 6 } }
  if v.getLsbD 7 then c.restart len else c

/-- `NR34`. -/
def WaveChannel.loadFreqHigh (c : WaveChannel) (len : Nat) (v : Byte) : WaveChannel :=
  let c := { c with freq := setFreqHigh c.freq v, voice := { c.voice with lenEnable := v.getLsbD 6 } }
  if v.getLsbD 7 then c.restart len else c

/-- `NR44`. -/
def NoiseChannel.loadControl (c : NoiseChannel) (len : Nat) (v : Byte) : NoiseChannel :=
  let c := { c with voice := { c.voice with lenEnable := v.getLsbD 6 } }
  if v.getLsbD 7 then c.restart len else c

/-- `NR10`; the counter is not touched. -/
def Sweep.load (w : Sweep) (v : Byte) : Sweep :=
  { w with period := v.extractLsb' 4 3, dirDown := v.getLsbD 3, shift := v.extractLsb' 0 3 }

/-- The two routing bits of channel `k + 1` (`NR51`). -/
def Voice.route (c : Voice) (k : Nat) (v : Byte) : Voice :=
  { c with toLeft := v.getLsbD (4 + k), toRight := v.getLsbD k }

/-- `NR51`. -/
def Sound.route (s : Sound) (v : Byte) : Sound :=
  { s with
    ch1 := { s.ch1 with voice := s.ch1.voice.route 0 v }
    ch2 := { s.ch2 with voice := s.ch2.voice.route 1 v }
    ch3 := { s.ch3 with voice := s.ch3.voice.route 2 v }
    ch4 := { s.ch4 with voice := s.ch4.voice.route 3 v } }

/-- The generators after a byte `v` is stored in a register, `regs` being the registers with it stored (R342); `p` gives
`LenCalls` (R344). -/
def Sound.load (s : Sound) (p : Config.Params) (regs : SoundRegs) (r : SoundReg) (v : Byte) : Sound :=
  match r with
  | .nr10 => { s with sweep := s.sweep.load v }
  | .nr11 => { s with ch1 := s.ch1.loadDuty (lenOf p 1 v) v }
  | .nr12 => { s with ch1 := s.ch1.loadEnvelope v }
  | .nr13 => { s with ch1 := s.ch1.loadFreqLow v }
  | .nr14 =>
    { s with ch1 := s.ch1.loadFreqHigh (lenOf p 1 regs.nr11) v
             sweep := if v.getLsbD 7 then { s.sweep with count := 0 } else s.sweep }
  | .nr21 => { s with ch2 := s.ch2.loadDuty (lenOf p 2 v) v }
  | .nr22 => { s with ch2 := s.ch2.loadEnvelope v }
  | .nr23 => { s with ch2 := s.ch2.loadFreqLow v }
  | .nr24 => { s with ch2 := s.ch2.loadFreqHigh (lenOf p 2 regs.nr21) v }
  | .nr30 => { s with ch3 := { s.ch3 with on := v.getLsbD 7 } }
  | .nr31 => { s with ch3 := { s.ch3 with voice := s.ch3.voice.loadLength (lenOf p 3 v) } }
  | .nr32 => { s with ch3 := { s.ch3 with level := v.extractLsb' 5 2 } }
  | .nr33 => { s with ch3 := { s.ch3 with freq := setFreqLow s.ch3.freq v } }
  | .nr34 => { s with ch3 := s.ch3.loadFreqHigh (lenOf p 3 regs.nr31) v }
  | .nr41 => { s with ch4 := { s.ch4 with voice := s.ch4.voice.loadLength (lenOf p 4 v) } }
  | .nr42 => { s with ch4 := { s.ch4 with env := s.ch4.env.load v } }
  | .nr43 =>
    { s with ch4 := { s.ch4 with shift := v.extractLsb' 4 4, tableSelect := v.getLsbD 3,
                                 divisor := v.extractLsb' 0 3 } }
  | .nr44 => { s with ch4 := s.ch4.loadControl (lenOf p 4 regs.nr41) v }
  | .nr50 => { s with volLeft := v.extractLsb' 4 3, volRight := v.extractLsb' 0 3 }
  | .nr51 => s.route v
  | .nr52 => s

/-- A byte of the wave pattern memory as two samples (10_state.md R38, 20_memory.md R73). -/
def WaveChannel.loadWave (c : WaveChannel) (k : Nat) (v : Byte) : WaveChannel :=
  { c with wave := Cells.write 0 (Cells.write 0 c.wave (2 * k) (v.extractLsb' 4 4)) (2 * k + 1) (v.extractLsb' 0 4) }

/-! ## Playback (R344 to R348) -/

/-- The samples of the stereo pairs of a buffer, (left, right), not yet narrowed (log 26). -/
abbrev Buffer := List (Int × Int)

/-- Whether the channel is silent: it counts its length and has none left (R344). -/
def Voice.silent (c : Voice) : Bool := c.lenEnable && decide (c.len = 0)

/-- The length step of a call that is not silent (R344). -/
def Voice.countLength (c : Voice) : Voice := if c.lenEnable then { c with len := c.len - 1 } else c

/-- The envelope step (R345): the new amplitude and envelope. -/
def Envelope.step (e : Envelope) (amp : BitVec 4) : BitVec 4 × Envelope :=
  if e.period = 0 then (amp, e)
  else if e.count + 1 < e.period.toNat then (amp, { e with count := e.count + 1 })
  else
    (if e.dirUp then (if amp = 15 then 15 else amp + 1) else (if amp = 0 then 0 else amp - 1), { e with count := 0 })

/-- The frequency a sweep step asks for, as an exact integer (R346). -/
def Sweep.target (w : Sweep) (freq : BitVec 11) : Int :=
  let d := freq.toNat >>> w.shift.toNat
  if w.dirDown then (freq.toNat : Int) - d else freq.toNat + d

/-- The sweep step of channel 1 (R346): a step that would leave the 11-bit range is dropped. -/
def Sweep.step (w : Sweep) (freq : BitVec 11) : BitVec 11 × Sweep :=
  if w.period = 0 ∨ w.shift = 0 then (freq, w)
  else if w.count + 1 < w.period.toNat then (freq, { w with count := w.count + 1 })
  else
    let f := w.target freq
    (if 0 ≤ f ∧ f ≤ 2047 then BitVec.ofInt 11 f else freq, { w with count := 0 })

/-- `ToneSample`, 0 at amplitude 0 (R347). -/
def toneSample (duty : BitVec 2) (freq : BitVec 11) (amp : BitVec 4) (pos rate : Nat) : Int :=
  if amp = 0 then 0 else Config.freeToneSample duty freq amp pos rate

/-- `WaveSample`, 0 at level 0 (R347). -/
def waveSample (wave : List (BitVec 4)) (level : BitVec 2) (freq : BitVec 11) (pos rate : Nat) : Int :=
  if level = 0 then 0 else Config.freeWaveSample wave level freq pos rate

/-- `NoiseSample`, 0 at amplitude 0 (R347). -/
def noiseSample (table : List Bool) (shift : BitVec 4) (divisor : BitVec 3) (amp : BitVec 4) (pos rate : Nat) : Int :=
  if amp = 0 then 0 else Config.freeNoiseSample table shift divisor amp pos rate

/-- Adds a channel's samples, given by position, into a buffer along its routing (R347). -/
def Voice.mixInto (c : Voice) (sample : Nat → Int) (k : Nat) (buf : Buffer) : Buffer :=
  match buf with
  | [] => []
  | (l, r) :: rest =>
    let s := sample (c.pos + k)
    (if c.toLeft then l + s else l, if c.toRight then r + s else r) :: c.mixInto sample (k + 1) rest

/-- The position after a call: one more for each stereo pair (R347), never wrapping (log 31). -/
def Voice.advance (c : Voice) (n : Nat) : Voice := { c with pos := c.pos + n }

/-- `Play` of a tone channel whose frequency is settled (R344, R345, R347). -/
def ToneChannel.playOn (c : ToneChannel) (rate : Nat) (buf : Buffer) : ToneChannel × Buffer :=
  let voice := c.voice.countLength
  let (amp, env) := c.env.step c.amp
  ({ c with voice := voice.advance buf.length, amp := amp, env := env },
   voice.mixInto (fun p => toneSample c.duty c.freq amp p rate) 0 buf)

/-- `Play` of channel 2. -/
def ToneChannel.play (c : ToneChannel) (rate : Nat) (buf : Buffer) : ToneChannel × Buffer :=
  if c.voice.silent then (c, buf) else c.playOn rate buf

/-- `Play` of channel 1, with its sweep (R346). -/
def Sound.play1 (s : Sound) (rate : Nat) (buf : Buffer) : Sound × Buffer :=
  if s.ch1.voice.silent then (s, buf)
  else
    let (freq, sweep) := s.sweep.step s.ch1.freq
    let (ch1, buf) := { s.ch1 with freq := freq }.playOn rate buf
    ({ s with ch1 := ch1, sweep := sweep }, buf)

/-- The 32 samples of channel 3 in order. -/
def WaveChannel.samples (c : WaveChannel) : List (BitVec 4) :=
  (List.range 32).map (fun k => Cells.read 0 c.wave k)

/-- `Play` of channel 3 (R344, R347). -/
def WaveChannel.play (c : WaveChannel) (rate : Nat) (buf : Buffer) : WaveChannel × Buffer :=
  if c.voice.silent then (c, buf)
  else
    let voice := c.voice.countLength
    ({ c with voice := voice.advance buf.length },
     voice.mixInto (fun p => if c.on then waveSample c.samples c.level c.freq p rate else 0) 0 buf)

/-- `Play` of channel 4 (R344, R345, R347). -/
def NoiseChannel.play (c : NoiseChannel) (rate : Nat) (buf : Buffer) : NoiseChannel × Buffer :=
  if c.voice.silent then (c, buf)
  else
    let voice := c.voice.countLength
    let (amp, env) := c.env.step c.amp
    let table := if c.tableSelect then Config.noiseTable7 else Config.noiseTable15
    ({ c with voice := voice.advance buf.length, amp := amp, env := env },
     voice.mixInto (fun p => noiseSample table c.shift c.divisor amp p rate) 0 buf)

/-- The four `Play` calls of a frame, channels 1 to 4 in order, each adding to the buffer (R341, R348). -/
def Sound.playAll (s : Sound) (rate : Nat) (buf : Buffer) : Sound × Buffer :=
  let (s, buf) := s.play1 rate buf
  let (ch2, buf) := s.ch2.play rate buf
  let (ch3, buf) := s.ch3.play rate buf
  let (ch4, buf) := s.ch4.play rate buf
  ({ s with ch2 := ch2, ch3 := ch3, ch4 := ch4 }, buf)

/-- `sample * (vol + 1) div 8`, the floor quotient (R348; 00_scope.md R8). -/
def scaleSample (vol : BitVec 3) (x : Int) : Int := (x * (vol.toNat + 1)).fdiv 8

/-- The samples of a buffer in order, left before right, scaled by the master volumes (R341, R348). -/
def Sound.scaled (s : Sound) (buf : Buffer) : List Int :=
  buf.flatMap (fun p => [scaleSample s.volLeft p.1, scaleSample s.volRight p.2])

/-- The audio batch of a frame of `n` pairs under an encoding `pcm`, the OPEN `PcmEncode` (R348): the generators after
it and the bytes. -/
def Sound.batch (pcm : List Int → List Byte) (s : Sound) (rate n : Nat) : Sound × List Byte :=
  let (s, buf) := s.playAll rate (List.replicate n (0, 0))
  (s, pcm (s.scaled buf))

end Sys2Proof.Machine
end

