-- ==== Sys2Proof/Machine/Video.lean ====
section
/-! DEFINITION. Palettes, the tile caches with their dirty flags (20_memory.md R69 to R71, 10_state.md R42) and the
pixel pipeline (60_exceptions.md R319, R324 to R329). A set dirty flag is an absent cache entry (log 3). -/

namespace Sys2Proof.Machine

/-! ## Palettes -/

/-- `v[2i+1:2i]` of a palette register: the shade number of colour index `i` (R36). -/
def shadeNumber (v : Byte) (ci : BitVec 2) : BitVec 2 := v.extractLsb' (2 * ci.toNat) 2

/-- The decoded palette of a register value (R71). -/
def Palette.decode (p : Config.Params) (v : Byte) : Palette where
  c0 := p.shade (shadeNumber v 0)
  c1 := p.shade (shadeNumber v 1)
  c2 := p.shade (shadeNumber v 2)
  c3 := p.shade (shadeNumber v 3)

/-! ## Tile data -/

/-- `base(n)` of R325 for background and window: unsigned at offset 0 with `LCDC[4] = 1`, else signed at 0x1000. -/
def bgTileBase (lcdc : Byte) (n : Byte) : Nat :=
  if lcdc.getLsbD 4 then 16 * n.toNat
  else if n.toNat < 128 then 0x1000 + 16 * n.toNat else 0x1000 + 16 * n.toNat - 4096

/-- `TilePixel(base, r, c)` of R325. -/
def tilePixel (vram : Memory) (base r c : Nat) : BitVec 2 :=
  let lo := vram.read (base + 2 * r)
  let hi := vram.read (base + 2 * r + 1)
  BitVec.ofBool (hi.getLsbD (7 - c)) ++ BitVec.ofBool (lo.getLsbD (7 - c))

/-- Offset in video RAM of the tile map that a control bit selects (R326, R327). -/
def mapBase (sel : Bool) : Nat := if sel then 0x1C00 else 0x1800

/-- The tile number at a cell of a map. -/
def mapEntry (vram : Memory) (sel : Bool) (cell : Nat) : Byte := vram.read (mapBase sel + cell)

/-- The background or window cell's pixel in row `r`, column `c`, decoded from video RAM as it is (R325, R326). -/
def bgPixelAt (vram : Memory) (io : IoRegs) (sel : Bool) (cell r c : Nat) : BgPixel :=
  let ci := tilePixel vram (bgTileBase io.lcdc (mapEntry vram sel cell)) r c
  { ci := ci, shade := shadeNumber io.bgp ci }

/-- The sprite tile's pixel in row `r`, column `c`, decoded from video RAM as it is (R325, R328). -/
def objPixelAt (vram : Memory) (io : IoRegs) (tile r c : Nat) : ObjPixel :=
  let ci := tilePixel vram (16 * tile) r c
  { ci := ci, shade0 := shadeNumber io.obp0 ci, shade1 := shadeNumber io.obp1 ci }

/-- The 64 pixels of a cell, row by row. -/
def bgTile (vram : Memory) (io : IoRegs) (sel : Bool) (cell : Nat) : List BgPixel :=
  (List.range 64).map (fun k => bgPixelAt vram io sel cell (k / 8) (k % 8))

/-- The 64 pixels of a sprite tile, row by row. -/
def objTile (vram : Memory) (io : IoRegs) (tile : Nat) : List ObjPixel :=
  (List.range 64).map (fun k => objPixelAt vram io tile (k / 8) (k % 8))

/-! ## Dirty flags -/

/-- Every background and window dirty flag is set (R70, R71). -/
def TileCaches.dirtyBackground (c : TileCaches) : TileCaches := { c with bg := [], window := [] }

/-- Every dirty flag of the sprite tile cache is set (R71). -/
def TileCaches.dirtySprites (c : TileCaches) : TileCaches := { c with sprite := [] }

/-- The entries of a map's cells whose tile is not tile `t` (R69). -/
def keepOtherTiles (vram : Memory) (lcdc : Byte) (sel : Bool) (t : Nat)
    (m : List (Nat × List BgPixel)) : List (Nat × List BgPixel) :=
  m.filter (fun e => bgTileBase lcdc (mapEntry vram sel e.1) / 16 ≠ t)

/-- `VramDirty(o)` of R69, `vram` being video RAM with the byte stored. -/
def TileCaches.vramDirty (c : TileCaches) (vram : Memory) (lcdc : Byte) (o : Nat) : TileCaches :=
  if o < 0x1800 then
    { bg := keepOtherTiles vram lcdc (lcdc.getLsbD 3) (o / 16) c.bg
      window := keepOtherTiles vram lcdc (lcdc.getLsbD 6) (o / 16) c.window
      sprite := Cells.erase c.sprite (o / 16) }
  else
    let sel := decide (0x1C00 ≤ o)
    let cell := (o - 0x1800) % 0x400
    { c with
      bg := if sel = lcdc.getLsbD 3 then Cells.erase c.bg cell else c.bg
      window := if sel = lcdc.getLsbD 6 then Cells.erase c.window cell else c.window }

/-- Whether an `LCDC` write changes bit 6, 4 or 3 (R70). -/
def lcdcBanksChange (old new : Byte) : Bool :=
  old.getLsbD 6 != new.getLsbD 6 || old.getLsbD 4 != new.getLsbD 4 || old.getLsbD 3 != new.getLsbD 3

/-- A cache with the entries of some keys recomputed where their dirty flag is set (R324). -/
def refresh {α : Type} (tile : Nat → List α) (keys : List Nat) (m : List (Nat × List α)) : List (Nat × List α) :=
  match keys with
  | [] => m
  | k :: keys =>
    refresh tile keys (match Cells.lookup m k with
      | some _ => m
      | none => Cells.insert m k (tile k))

/-- A pixel of a cached entry; a line reads only entries that `refresh` made valid. -/
def cachedPixel {α : Type} (m : List (Nat × List α)) (k r c : Nat) (dflt : α) : α :=
  ((Cells.lookup m k).getD []).getD (8 * r + c) dflt

/-! ## One line -/

/-- The background plane's row and column at a screen pixel (R326). -/
def bgRow (io : IoRegs) (y : Nat) : Nat := (y + io.scy.toNat) % 256
/-- The background plane's column at a screen pixel (R326). -/
def bgCol (io : IoRegs) (x : Nat) : Nat := (x + io.scx.toNat) % 256

/-- The cell of a 32x32 map that holds the pixel in row `py`, column `px` of the plane. -/
def cellOf (py px : Nat) : Nat := 32 * (py / 8) + px / 8

/-- Whether the window covers a screen pixel (R327). -/
def inWindow (io : IoRegs) (y x : Nat) : Bool :=
  io.lcdc.getLsbD 5 && decide (io.wy.toNat ≤ y) && decide (io.wx.toNat ≤ x + 7)

/-- The window's row, and column, at a screen pixel it covers (R327). -/
def winRow (io : IoRegs) (y : Nat) : Nat := y - io.wy.toNat
/-- The window's column at a screen pixel it covers (R327). -/
def winCol (io : IoRegs) (x : Nat) : Nat := x + 7 - io.wx.toNat

/-- How a line reads tile pixels: from the caches, or straight from video RAM. -/
structure TileSource where
  bg : Nat → Nat → Nat → BgPixel
  window : Nat → Nat → Nat → BgPixel
  sprite : Nat → Nat → Nat → ObjPixel

/-- Tile pixels decoded from video RAM as it is: the cache-free computation (R324). -/
def TileSource.direct (b : Bus) : TileSource where
  bg := bgPixelAt b.vram b.io (b.io.lcdc.getLsbD 3)
  window := bgPixelAt b.vram b.io (b.io.lcdc.getLsbD 6)
  sprite := objPixelAt b.vram b.io

/-- Tile pixels taken from the caches. -/
def TileSource.cached (c : TileCaches) : TileSource where
  bg k r x := cachedPixel c.bg k r x { ci := 0, shade := 0 }
  window k r x := cachedPixel c.window k r x { ci := 0, shade := 0 }
  sprite k r x := cachedPixel c.sprite k r x { ci := 0, shade0 := 0, shade1 := 0 }

/-- The background-or-window pixel at a screen pixel (R326, R327): with `LCDC[0] = 0` the background gives 0, 0. -/
def layerPixel (src : TileSource) (io : IoRegs) (y x : Nat) : BgPixel :=
  if inWindow io y x then
    src.window (cellOf (winRow io y) (winCol io x)) (winRow io y % 8) (winCol io x % 8)
  else if io.lcdc.getLsbD 0 then
    src.bg (cellOf (bgRow io y) (bgCol io x)) (bgRow io y % 8) (bgCol io x % 8)
  else { ci := 0, shade := 0 }

/-- An entry of the sprite attribute table (R328). -/
structure SpriteEntry where
  y : Byte
  x : Byte
  tile : Byte
  attr : Byte
deriving DecidableEq, Repr

/-- Entry `i` of OAM (R328). -/
def spriteEntry (oam : Memory) (i : Nat) : SpriteEntry where
  y := oam.read (4 * i)
  x := oam.read (4 * i + 1)
  tile := oam.read (4 * i + 2)
  attr := oam.read (4 * i + 3)

/-- The height of the sprites (R328). -/
def spriteHeight (io : IoRegs) : Nat := if io.lcdc.getLsbD 2 then 16 else 8

/-- Whether a sprite covers line `y`: `Y - 16 <= y < Y - 16 + h` (R328). -/
def SpriteEntry.covers (e : SpriteEntry) (io : IoRegs) (y : Nat) : Bool :=
  decide (e.y.toNat ≤ y + 16) && decide (y + 16 < e.y.toNat + spriteHeight io)

/-- Whether a sprite that covers a line has column `x` on it: `X - 8 <= x < X` (R328). -/
def SpriteEntry.hasColumn (e : SpriteEntry) (x : Nat) : Bool :=
  decide (e.x.toNat ≤ x + 8) && decide (x < e.x.toNat)

/-- The sprite's row on a line it covers, after the vertical flip (R328). -/
def SpriteEntry.row (e : SpriteEntry) (io : IoRegs) (y : Nat) : Nat :=
  let r := y + 16 - e.y.toNat
  if e.attr.getLsbD 6 then spriteHeight io - 1 - r else r

/-- The tile that the sprite shows in its row `r`: of a tall sprite an even tile and the one after it (R328). -/
def SpriteEntry.tileAt (e : SpriteEntry) (io : IoRegs) (r : Nat) : Nat :=
  (if io.lcdc.getLsbD 2 then (e.tile &&& 0xFE).toNat else e.tile.toNat) + r / 8

/-- The sprite's column at `x`, after the horizontal flip (R328). -/
def SpriteEntry.col (e : SpriteEntry) (x : Nat) : Nat :=
  let c := x + 8 - e.x.toNat
  if e.attr.getLsbD 5 then 7 - c else c

/-- Whether a priority bit hides a sprite pixel behind the layer (R329). -/
def suppressed (sense : Config.PrioritySense) (layer : BgPixel) : Bool :=
  match sense with
  | .source => decide (layer.shade = 0)
  | .hardware => decide (layer.ci ≠ 0)

/-- What sprite `e` leaves at a screen pixel whose colour so far is `acc` (R328, R329). -/
def SpriteEntry.over (e : SpriteEntry) (src : TileSource) (p : Config.Params) (io : IoRegs)
    (sense : Config.PrioritySense) (layer : BgPixel) (y x : Nat) (acc : BitVec 32) : BitVec 32 :=
  if e.covers io y && e.hasColumn x then
    let r := e.row io y
    let px := src.sprite (e.tileAt io r) (r % 8) (e.col x)
    if px.ci = 0 then acc
    else if e.attr.getLsbD 7 && suppressed sense layer then acc
    else p.shade (if e.attr.getLsbD 4 then px.shade1 else px.shade0)
  else acc

/-- The sprites `n - 1` down to 0 drawn over a colour, each over what was there: the lowest index ends on top (R328). -/
def drawSprites (src : TileSource) (b : Bus) (sense : Config.PrioritySense) (layer : BgPixel) (y x n : Nat)
    (acc : BitVec 32) : BitVec 32 :=
  match n with
  | 0 => acc
  | n + 1 =>
    drawSprites src b sense layer y x n ((spriteEntry b.oam n).over src b.cfg b.io sense layer y x acc)

/-- The colour of a screen pixel (R319, R324 to R329). -/
def pixelColour (src : TileSource) (b : Bus) (sense : Config.PrioritySense) (y x : Nat) : BitVec 32 :=
  if b.io.lcdc.getLsbD 7 then
    let layer := layerPixel src b.io y x
    let back := b.cfg.shade layer.shade
    if b.io.lcdc.getLsbD 1 then drawSprites src b sense layer y x Config.nSprites back else back
  else b.cfg.shade 0

/-- The 160 pixels of line `y`. -/
def linePixels (src : TileSource) (b : Bus) (sense : Config.PrioritySense) (y : Nat) : Line :=
  (List.range Config.screenW).map (pixelColour src b sense y)

/-- The background cells a line is about to use: every column's, window or not (R324, R326). -/
def usedBgCells (io : IoRegs) (y : Nat) : List Nat :=
  if io.lcdc.getLsbD 7 && io.lcdc.getLsbD 0 then
    (List.range Config.screenW).map (fun x => cellOf (bgRow io y) (bgCol io x))
  else []

/-- The window cells a line is about to use (R324, R327). -/
def usedWindowCells (io : IoRegs) (y : Nat) : List Nat :=
  if io.lcdc.getLsbD 7 then
    ((List.range Config.screenW).filter (inWindow io y)).map (fun x => cellOf (winRow io y) (winCol io x))
  else []

/-- The sprite tiles a line is about to use: of every sprite that covers it (R324, R328). -/
def usedSpriteTiles (b : Bus) (y : Nat) : List Nat :=
  if b.io.lcdc.getLsbD 7 && b.io.lcdc.getLsbD 1 then
    (((List.range Config.nSprites).map (spriteEntry b.oam)).filter (fun e => e.covers b.io y)).map
      (fun e => e.tileAt b.io (e.row b.io y))
  else []

/-- The caches after a line has recomputed the entries it is about to use (R324; log 28). -/
def refreshedCaches (b : Bus) (y : Nat) : TileCaches where
  bg := refresh (bgTile b.vram b.io (b.io.lcdc.getLsbD 3)) (usedBgCells b.io y) b.caches.bg
  window := refresh (bgTile b.vram b.io (b.io.lcdc.getLsbD 6)) (usedWindowCells b.io y) b.caches.window
  sprite := refresh (objTile b.vram b.io) (usedSpriteTiles b y) b.caches.sprite

/-- A frame buffer row that nothing has written, 160 times `SHADE[0]` (10_state.md R48). -/
def blankLine (p : Config.Params) : Line := List.replicate Config.screenW (p.shade 0)

/-- `RenderLine(y)` (R324): the caches first, then the line's pixels from them. -/
def Bus.renderLine (b : Bus) (sense : Config.PrioritySense) (y : Nat) : Bus :=
  let caches := refreshedCaches b y
  { b with caches := caches
           fb := Cells.write (blankLine b.cfg) b.fb y (linePixels (TileSource.cached caches) b sense y) }

/-- The 23040 values of `fb`, row-major (10_state.md R44; R336). -/
def Bus.pixels (b : Bus) : List (BitVec 32) :=
  (List.range Config.screenH).flatMap (fun y => Cells.read (blankLine b.cfg) b.fb y)

end Sys2Proof.Machine
end

