-- ==== Sys2Proof/Machine/Bus.lean ====
section
/-! DEFINITION. The Address-Space Dispatcher: the regions, `ReadByte`, `WriteByte` and the side effects of the
memory-mapped registers (20_memory.md R51 to R81). -/

namespace Sys2Proof.Machine

/-! ## Regions -/

/-- The memory-mapped registers of 0xFF00 to 0xFF7F (10_state.md R27 to R38). -/
inductive IoReg where
  | p1 | sb | sc | div | tima | tma | tac | ifl
  | sound (r : SoundReg)
  | wave (k : Nat)
  | lcdc | stat | scy | scx | ly | lyc | dma | bgp | obp0 | obp1 | wy | wx
deriving DecidableEq, Repr

/-- The registers at 0xFF00 to 0xFF0F by offset (R29, R30, R31, R27). -/
def ioRegsLow : List (Nat × IoReg) :=
  [(0x00, .p1), (0x01, .sb), (0x02, .sc), (0x04, .div), (0x05, .tima), (0x06, .tma), (0x07, .tac), (0x0F, .ifl)]

/-- The sound registers by offset from 0xFF00 (R37, R38). -/
def ioRegsSound : List (Nat × IoReg) :=
  [(0x10, .sound .nr10), (0x11, .sound .nr11), (0x12, .sound .nr12), (0x13, .sound .nr13), (0x14, .sound .nr14),
   (0x16, .sound .nr21), (0x17, .sound .nr22), (0x18, .sound .nr23), (0x19, .sound .nr24),
   (0x1A, .sound .nr30), (0x1B, .sound .nr31), (0x1C, .sound .nr32), (0x1D, .sound .nr33), (0x1E, .sound .nr34),
   (0x20, .sound .nr41), (0x21, .sound .nr42), (0x22, .sound .nr43), (0x23, .sound .nr44),
   (0x24, .sound .nr50), (0x25, .sound .nr51), (0x26, .sound .nr52)]

/-- The display registers by offset from 0xFF00 (R32 to R36). -/
def ioRegsLcd : List (Nat × IoReg) :=
  [(0x40, .lcdc), (0x41, .stat), (0x42, .scy), (0x43, .scx), (0x44, .ly), (0x45, .lyc), (0x46, .dma),
   (0x47, .bgp), (0x48, .obp0), (0x49, .obp1), (0x4A, .wy), (0x4B, .wx)]

/-- The register at an offset from 0xFF00, none where there is no register (R39). -/
def ioRegAt (o : Nat) : Option IoReg :=
  if 0x30 ≤ o ∧ o < 0x40 then some (.wave (o - 0x30))
  else Cells.lookup (ioRegsLow ++ ioRegsSound ++ ioRegsLcd) o

/-- Who owns an address (R51): each address has one owner (R52). -/
inductive Region where
  | cart (a : Nat)
  | vram (o : Nat)
  | wram (o : Nat)
  | oam (o : Nat)
  | hram (o : Nat)
  | ie
  | io (r : IoReg)
  | unmapped
deriving DecidableEq, Repr

/-- The owner of address `a` (R51, R54, R58, R39). -/
def regionOf (a : Nat) : Region :=
  if a < 0x8000 then .cart a
  else if a < 0xA000 then .vram (a - 0x8000)
  else if a < 0xC000 then .cart a
  else if a < 0xE000 then .wram (a - 0xC000)
  else if a < 0xFE00 then .wram (a - 0xE000)
  else if a < 0xFEA0 then .oam (a - 0xFE00)
  else if a < 0xFF00 then .unmapped
  else if a < 0xFF80 then
    match ioRegAt (a - 0xFF00) with
    | some r => .io r
    | none => .unmapped
  else if a < 0xFFFF then .hram (a - 0xFF80)
  else .ie

/-! ## Reads -/

/-- Bits 3 to 0 of `P1` (R75): 1 where no button of an active line pulls the bit low. -/
def joypadBits (sel : BitVec 2) (p : Buttons) : BitVec 4 :=
  let dir := !sel.getLsbD 0
  let act := !sel.getLsbD 1
  let bit (d a : Bool) : BitVec 1 := BitVec.ofBool (!(dir && d || act && a))
  bit p.down p.start ++ bit p.up p.select ++ bit p.left p.b ++ bit p.right p.a

/-- The value a read of a register returns (R80). -/
def Bus.ioValue (b : Bus) (r : IoReg) : Byte :=
  match r with
  | .p1 => 0b11#2 ++ b.io.p1Sel ++ joypadBits b.io.p1Sel b.pressed
  | .sb => b.io.sb
  | .sc => b.io.sc
  | .div => b.io.div
  | .tima => b.io.tima
  | .tma => b.io.tma
  | .tac => 0b11111#5 ++ b.io.tac
  | .ifl => 0b111#3 ++ b.io.ifl
  | .sound r => b.sregs.get r
  | .wave k => b.sregs.wave.read k
  | .lcdc => b.io.lcdc
  | .stat => 0b1#1 ++ b.io.statEnable ++ BitVec.ofBool (decide (b.io.ly = b.io.lyc)) ++ b.io.mode
  | .scy => b.io.scy
  | .scx => b.io.scx
  | .ly => b.io.ly
  | .lyc => b.io.lyc
  | .dma => b.io.dma
  | .bgp => b.io.bgp
  | .obp0 => b.io.obp0
  | .obp1 => b.io.obp1
  | .wy => b.io.wy
  | .wx => b.io.wx

/-- Whether a read of an address is not fatal (R94): only the cartridge refuses one. -/
def Bus.readable (b : Bus) (a : Word) : Bool :=
  match regionOf a.toNat with
  | .cart n => b.cart.readable n
  | _ => true

/-- The value `ReadByte(a)` returns where it is not fatal (R55); an unmapped address gives the next draw (R58, R79). -/
def Bus.value (b : Bus) (a : Word) : Byte :=
  match regionOf a.toNat with
  | .cart n => b.cart.value n
  | .vram o => b.vram.read o
  | .wram o => b.wram.read o
  | .oam o => b.oam.read o
  | .hram o => b.hram.read o
  | .ie => b.io.ie
  | .io r => b.ioValue r
  | .unmapped => Config.freeByte b.draws

/-- What a read leaves behind (R62): a palette read sets dirty flags (R71), an unmapped one takes a draw. -/
def Bus.afterRead (b : Bus) (a : Word) : Bus :=
  match regionOf a.toNat with
  | .io .bgp => { b with caches := b.caches.dirtyBackground }
  | .io .obp0 => { b with caches := b.caches.dirtySprites }
  | .io .obp1 => { b with caches := b.caches.dirtySprites }
  | .unmapped => { b with draws := b.draws + 1 }
  | _ => b

/-- The outcome of a byte access: the value with the bus after it, or the cartridge's fatal error with the address
it records and the bus as the access left it (R94, R271, R275). -/
inductive Access (α : Type) where
  | ok (v : α) (b : Bus)
  | fatal (a : Word) (b : Bus)

/-- `ReadByte(a)` (R55). -/
def Bus.read (b : Bus) (a : Word) : Access Byte :=
  if b.readable a then .ok (b.value a) (b.afterRead a) else .fatal a b

/-! ## Writes -/

/-- A write to video RAM (R69). -/
def Bus.writeVram (b : Bus) (o : Nat) (v : Byte) : Bus :=
  let vram := b.vram.write o v
  { b with vram := vram, caches := b.caches.vramDirty vram b.io.lcdc o }

/-- A write to `LCDC` (R70). -/
def Bus.writeLcdc (b : Bus) (v : Byte) : Bus :=
  { b with io := { b.io with lcdc := v }
           caches := if lcdcBanksChange b.io.lcdc v then b.caches.dirtyBackground else b.caches }

/-- A write to `TAC` (R76). -/
def Bus.writeTac (b : Bus) (v : Byte) : Bus :=
  { b with io := { b.io with tac := v.extractLsb' 0 3 }
           drv := if b.io.tac.extractLsb' 0 2 = v.extractLsb' 0 2 then b.drv else { b.drv with timaAcc := 0 } }

/-- A write to `BGP` (R71). -/
def Bus.writeBgp (b : Bus) (v : Byte) : Bus :=
  { b with io := { b.io with bgp := v }, pal := { b.pal with bg := .decode b.cfg v }
           caches := b.caches.dirtyBackground }

/-- A write to `OBP0` (R71). -/
def Bus.writeObp0 (b : Bus) (v : Byte) : Bus :=
  { b with io := { b.io with obp0 := v }, pal := { b.pal with obj0 := .decode b.cfg v }
           caches := b.caches.dirtySprites }

/-- A write to `OBP1` (R71). -/
def Bus.writeObp1 (b : Bus) (v : Byte) : Bus :=
  { b with io := { b.io with obp1 := v }, pal := { b.pal with obj1 := .decode b.cfg v }
           caches := b.caches.dirtySprites }

/-- A write to a sound register (R73). -/
def Bus.writeSound (b : Bus) (r : SoundReg) (v : Byte) : Bus :=
  let sregs := b.sregs.set r v
  { b with sregs := sregs, snd := b.snd.load b.cfg sregs r v }

/-- A write to byte `k` of the wave pattern memory (R73). -/
def Bus.writeWave (b : Bus) (k : Nat) (v : Byte) : Bus :=
  { b with sregs := { b.sregs with wave := b.sregs.wave.write k v }
           snd := { b.snd with ch3 := b.snd.ch3.loadWave k v } }

/-- A write to a register (R81), but for the copy that a write to `DMA` goes on to make. -/
def Bus.ioWrite (b : Bus) (r : IoReg) (v : Byte) : Bus :=
  match r with
  | .p1 => { b with io := { b.io with p1Sel := v.extractLsb' 4 2 } }
  | .sb => { b with io := { b.io with sb := v } }
  | .sc => { b with io := { b.io with sc := v } }
  | .div => { b with io := { b.io with div := 0 }, drv := { b.drv with divAcc := 0 } }
  | .tima => { b with io := { b.io with tima := v } }
  | .tma => { b with io := { b.io with tma := v } }
  | .tac => b.writeTac v
  | .ifl => { b with io := { b.io with ifl := v.extractLsb' 0 5 } }
  | .sound r => b.writeSound r v
  | .wave k => b.writeWave k v
  | .lcdc => b.writeLcdc v
  | .stat => { b with io := { b.io with statEnable := v.extractLsb' 3 4 } }
  | .scy => { b with io := { b.io with scy := v } }
  | .scx => { b with io := { b.io with scx := v } }
  | .ly => b
  | .lyc => { b with io := { b.io with lyc := v } }
  | .dma => { b with io := { b.io with dma := v } }
  | .bgp => b.writeBgp v
  | .obp0 => b.writeObp0 v
  | .obp1 => b.writeObp1 v
  | .wy => { b with io := { b.io with wy := v } }
  | .wx => { b with io := { b.io with wx := v } }

/-- The source address of byte `i` of an OAM DMA copy from page `v` (R72). -/
def dmaSource (v : Byte) (i : Nat) : Word := word v 0 + BitVec.ofNat 16 i

/-- The OAM DMA copy from byte `i` on, `n` bytes left, in ascending order; its reads go through `ReadByte` (R72). -/
def Bus.dmaCopy (v : Byte) (n i : Nat) (b : Bus) : Access Unit :=
  match n with
  | 0 => .ok () b
  | n + 1 =>
    match b.read (dmaSource v i) with
    | .ok x b => Bus.dmaCopy v n (i + 1) { b with oam := b.oam.write i x }
    | .fatal a b => .fatal a b

/-- A write to an address the cartridge owns (R90, R94, R109). -/
def Bus.writeCart (b : Bus) (a : Word) (v : Byte) : Access Unit :=
  if b.cart.writable a.toNat then
    .ok () { b with cart := b.cart.write a.toNat v (rtcNow b.draws)
                    draws := if b.cart.latches a.toNat v then b.draws + 1 else b.draws }
  else .fatal a b

/-- `WriteByte(a, v)` (R56). -/
def Bus.write (b : Bus) (a : Word) (v : Byte) : Access Unit :=
  match regionOf a.toNat with
  | .cart _ => b.writeCart a v
  | .vram o => .ok () (b.writeVram o v)
  | .wram o => .ok () { b with wram := b.wram.write o v }
  | .oam o => .ok () { b with oam := b.oam.write o v }
  | .hram o => .ok () { b with hram := b.hram.write o v }
  | .ie => .ok () { b with io := { b.io with ie := v } }
  | .io .dma => Bus.dmaCopy v Config.oamBytes 0 (b.ioWrite .dma v)
  | .io r => .ok () (b.ioWrite r v)
  | .unmapped => .ok () b

/-- Whether `WriteByte(a, v)` is not fatal (R94; R72 for the copy a write to `DMA` makes). -/
def Bus.writable (b : Bus) (a : Word) (v : Byte) : Bool :=
  match b.write a v with
  | .ok _ _ => true
  | .fatal _ _ => false

/-- The bus after `WriteByte(a, v)`, fatal or not. -/
def Bus.written (b : Bus) (a : Word) (v : Byte) : Bus :=
  match b.write a v with
  | .ok _ b => b
  | .fatal _ b => b

/-! ## One byte, looked at -/

/-- What address `a` reads as, none where a read of it gives a draw or is fatal: the observation in which
statements say what memory holds. -/
def Bus.peek (b : Bus) (a : Word) : Option Byte :=
  match regionOf a.toNat with
  | .unmapped => none
  | .cart n => if b.cart.readable n then some (b.cart.value n) else none
  | _ => some (b.value a)

end Sys2Proof.Machine
end

