-- ==== Sys2Proof/Machine/Flags.lean ====
section
/-! DEFINITION. Every result and flag computation, on exact integers that are narrowed at the end
(42_alu8.md R176 to R202, 43_alu16.md R208 to R210, 44_rotate_shift.md R214 to R225, 45_bit.md R236). -/

namespace Sys2Proof.Machine

/-! ## 8-bit arithmetic and logic -/

/-- `int(v[3:0])`. -/
def nibble (v : Byte) : Nat := (v.extractLsb' 0 4).toNat

/-- `a + x + c` with its flags (R176 with `c = 0`, R177). -/
def addByte (a x : Byte) (c : Nat) : Byte × Flags :=
  let s := a.toNat + x.toNat + c
  let v := BitVec.ofNat 8 s
  (v, { z := decide (v = 0), n := false, h := decide (nibble a + nibble x + c > 0xF), c := decide (s > 0xFF) })

/-- `a - x - c` with its flags (R178 and R183 with `c = 0`, R179). -/
def subByte (a x : Byte) (c : Nat) : Byte × Flags :=
  let d : Int := a.toNat - x.toNat - c
  let v := BitVec.ofInt 8 d
  (v, { z := decide (v = 0), n := true, h := decide ((nibble a : Int) - nibble x - c < 0), c := decide (d < 0) })

/-- A logical result with its flags (R180, R181, R182): `H` is 1 after `AND` alone. -/
def logicByte (v : Byte) (h : Bool) : Byte × Flags :=
  (v, { z := decide (v = 0), n := false, h := h, c := false })

/-- The eight operations of R175: the new `A` and the new flags. -/
def alu (op : AluOp) (a x : Byte) (f : Flags) : Byte × Flags :=
  match op with
  | .add => addByte a x 0
  | .adc => addByte a x (bitNat f.c)
  | .sub => subByte a x 0
  | .sbc => subByte a x (bitNat f.c)
  | .and => logicByte (a &&& x) true
  | .xor => logicByte (a ^^^ x) false
  | .or => logicByte (a ||| x) false
  | .cp => (a, (subByte a x 0).2)

/-- `old + 1` with its flags, `C` kept (R184). -/
def incByte (old : Byte) (f : Flags) : Byte × Flags :=
  let v := old + 1
  (v, { f with z := decide (v = 0), n := false, h := decide (nibble old = 0xF) })

/-- `old - 1` with its flags, `C` kept (R186). -/
def decByte (old : Byte) (f : Flags) : Byte × Flags :=
  let v := old - 1
  (v, { f with z := decide (v = 0), n := true, h := decide (nibble old = 0x0) })

/-- Whether `DAA` corrects the low nibble (R199). -/
def daaLow (a : Byte) (f : Flags) : Bool := f.h || (!f.n && decide (nibble a > 0x09))

/-- Whether `DAA` corrects the high nibble, which is also the new `C` (R199). -/
def daaHigh (a : Byte) (f : Flags) : Bool := f.c || (!f.n && decide (a.toNat > 0x99))

/-- `adj` of R199. -/
def daaAdjust (a : Byte) (f : Flags) : Byte :=
  (if daaLow a f then 0x06 else 0) + (if daaHigh a f then 0x60 else 0)

/-- `DAA` (R199). -/
def daa (a : Byte) (f : Flags) : Byte × Flags :=
  let v := if f.n then a - daaAdjust a f else a + daaAdjust a f
  (v, { f with z := decide (v = 0), h := false, c := daaHigh a f })

/-- The flags after `CPL` (R200). -/
def Flags.cpl (f : Flags) : Flags := { f with n := true, h := true }

/-- The flags after `SCF` (R201). -/
def Flags.scf (f : Flags) : Flags := { f with n := false, h := false, c := true }

/-- The flags after `CCF` (R202). -/
def Flags.ccf (f : Flags) : Flags := { f with n := false, h := false, c := !f.c }

/-! ## 16-bit arithmetic -/

/-- `int(v[11:0])`. -/
def low12 (v : Word) : Nat := (v.extractLsb' 0 12).toNat

/-- `ADD HL,rp` (R208). -/
def addWord (hl x : Word) (f : Flags) : Word × Flags :=
  let s := hl.toNat + x.toNat
  (BitVec.ofNat 16 s, { f with n := false, h := decide (low12 hl + low12 x > 0x0FFF), c := decide (s > 0xFFFF) })

/-- `SP + e` with its flags, which come from the unsigned addition of the low bytes (R209, R210). -/
def addSigned (sp : Word) (e : Byte) : Word × Flags :=
  (sp + sext16 e,
   { z := false, n := false
     h := decide (nibble (loByte sp) + nibble e > 0xF), c := decide ((loByte sp).toNat + e.toNat > 0xFF) })

/-! ## Rotates, shifts, swap -/

/-- The new value (R218 to R225): `carry` is `flag.C` before. -/
def rotValue (op : RotOp) (v : Byte) (carry : Bool) : Byte :=
  match op with
  | .rlc => v.extractLsb' 0 7 ++ v.extractLsb' 7 1
  | .rrc => v.extractLsb' 0 1 ++ v.extractLsb' 1 7
  | .rl => v.extractLsb' 0 7 ++ BitVec.ofBool carry
  | .rr => BitVec.ofBool carry ++ v.extractLsb' 1 7
  | .sla => v.extractLsb' 0 7 ++ 0#1
  | .sra => v.extractLsb' 7 1 ++ v.extractLsb' 1 7
  | .swap => v.extractLsb' 0 4 ++ v.extractLsb' 4 4
  | .srl => 0#1 ++ v.extractLsb' 1 7

/-- The new `C` (R218 to R225): the bit that leaves, 0 for `SWAP`. -/
def rotCarry (op : RotOp) (v : Byte) : Bool :=
  match op with
  | .rlc | .rl | .sla => v.getLsbD 7
  | .rrc | .rr | .sra | .srl => v.getLsbD 0
  | .swap => false

/-- A secondary-map rotate, shift or swap: the new value and flags. -/
def rot (op : RotOp) (v : Byte) (f : Flags) : Byte × Flags :=
  let w := rotValue op v f.c
  (w, { z := decide (w = 0), n := false, h := false, c := rotCarry op v })

/-- A compact rotate of `A`, which clears `Z` (R214 to R217). -/
def rotA (op : RotOp) (v : Byte) (f : Flags) : Byte × Flags :=
  (rotValue op v f.c, { z := false, n := false, h := false, c := rotCarry op v })

/-! ## Single bits -/

/-- The byte in which bit `b` alone is set: `1 << b`. -/
def bitMask (b : Fin 8) : Byte := 1#8 <<< b.val

/-- The flags after `BIT b` of a byte (R236). -/
def bitTest (b : Fin 8) (v : Byte) (f : Flags) : Flags := { f with z := !v.getLsbD b.val, n := false, h := true }

/-- `v | (1 << b)` (R238). -/
def bitSet (b : Fin 8) (v : Byte) : Byte := v ||| bitMask b

/-- `v & ~(1 << b)` (R240). -/
def bitRes (b : Fin 8) (v : Byte) : Byte := v &&& ~~~(bitMask b)

end Sys2Proof.Machine
end

