-- ==== Sys2Proof/Machine/Operands.lean ====
section
/-! DEFINITION. Registers, pairs, the flag byte and conditions: every operand form that is not memory
(10_state.md R13 to R18, 30_encoding.md R123 to R125). -/

namespace Sys2Proof.Machine

/-! ## 8-bit registers (R13) -/

/-- The value of a register. -/
def Regs.get (g : Regs) (r : Reg8) : Byte :=
  match r with
  | .b => g.b | .c => g.c | .d => g.d | .e => g.e | .h => g.h | .l => g.l | .a => g.a

/-- The registers with one written. -/
def Regs.set (g : Regs) (r : Reg8) (v : Byte) : Regs :=
  match r with
  | .b => { g with b := v } | .c => { g with c := v } | .d => { g with d := v } | .e => { g with e := v }
  | .h => { g with h := v } | .l => { g with l := v } | .a => { g with a := v }

/-- The value of a register. -/
def State.reg (s : State) (r : Reg8) : Byte := s.cpu.regs.get r

/-- `r8[y] <- v` on a register. -/
def State.setReg (s : State) (r : Reg8) (v : Byte) : State :=
  { s with cpu := { s.cpu with regs := s.cpu.regs.set r v } }

/-! ## Pairs (R14, R15) -/

/-- The value of a pair, the first named register high (R14). -/
def State.stackPair (s : State) (p : StackPair) : Word :=
  match p with
  | .bc => word s.cpu.regs.b s.cpu.regs.c
  | .de => word s.cpu.regs.d s.cpu.regs.e
  | .hl => word s.cpu.regs.h s.cpu.regs.l

/-- `rr <- v` on a pair of registers (R14). -/
def Regs.setPair (g : Regs) (p : StackPair) (v : Word) : Regs :=
  match p with
  | .bc => { g with b := hiByte v, c := loByte v }
  | .de => { g with d := hiByte v, e := loByte v }
  | .hl => { g with h := hiByte v, l := loByte v }

/-- `rr <- v` on a pair of registers (R14). -/
def State.setStackPair (s : State) (p : StackPair) (v : Word) : State :=
  { s with cpu := { s.cpu with regs := s.cpu.regs.setPair p v } }

/-- The address in `HL`. -/
def State.hl (s : State) : Word := s.stackPair .hl

/-- `SP <- v` (R15). -/
def State.setSp (s : State) (v : Word) : State := { s with cpu := { s.cpu with sp := v } }

/-- `pc <- v` (R16). -/
def State.setPc (s : State) (v : Word) : State := { s with cpu := { s.cpu with pc := v } }

/-- `rp[p]` (30_encoding.md R124). -/
def State.pair (s : State) (p : Pair) : Word :=
  match p with
  | .bc => s.stackPair .bc
  | .de => s.stackPair .de
  | .hl => s.stackPair .hl
  | .sp => s.cpu.sp

/-- `rp[p] <- v`. -/
def State.setPair (s : State) (p : Pair) (v : Word) : State :=
  match p with
  | .bc => s.setStackPair .bc v
  | .de => s.setStackPair .de v
  | .hl => s.setStackPair .hl v
  | .sp => s.setSp v

/-! ## Flags (R17) -/

/-- `F`: the flags in bits 7, 6, 5, 4 and zeros below (R17). -/
def Flags.toByte (f : Flags) : Byte :=
  BitVec.ofBool f.z ++ BitVec.ofBool f.n ++ BitVec.ofBool f.h ++ BitVec.ofBool f.c ++ 0b0000#4

/-- The flags of a byte loaded into `F`; its low nibble is discarded (R17). -/
def Flags.ofByte (v : Byte) : Flags :=
  { z := v.getLsbD 7, n := v.getLsbD 6, h := v.getLsbD 5, c := v.getLsbD 4 }

/-- The four flags written. -/
def State.setFlags (s : State) (f : Flags) : State := { s with cpu := { s.cpu with flags := f } }

/-- `AF`, `A` in the high byte (41_load16_stack.md R170). -/
def State.af (s : State) : Word := word s.cpu.regs.a s.cpu.flags.toByte

/-- `AF <- v` (41_load16_stack.md R172). -/
def State.setAf (s : State) (v : Word) : State :=
  (s.setReg .a (hiByte v)).setFlags (.ofByte (loByte v))

/-- `cond(cc)` (46_control.md R244). -/
def condHolds (cc : Cond) (f : Flags) : Bool :=
  match cc with
  | .nz => !f.z
  | .z => f.z
  | .nc => !f.c
  | .c => f.c

/-! ## Control bits of the CPU (R19 to R24) -/

/-- `IME <- v` (R19). -/
def State.setIme (s : State) (v : Bool) : State := { s with cpu := { s.cpu with ime := v } }

/-- `halted <- v` (R20). -/
def State.setHalted (s : State) (v : Bool) : State := { s with cpu := { s.cpu with halted := v } }

/-- `stopped <- v` (R21). -/
def State.setStopped (s : State) (v : Bool) : State := { s with cpu := { s.cpu with stopped := v } }

/-- `skip_inc <- v` (R22). -/
def State.setSkipInc (s : State) (v : Bool) : State := { s with cpu := { s.cpu with skipInc := v } }

/-- `Tick(n)` (R23; 00_scope.md R10). -/
def State.tick (s : State) (n : Nat) : State := { s with cpu := { s.cpu with ticks := s.cpu.ticks + n } }

/-- `TickCost(op, taken)` of the machine for an opcode of the primary map (00_scope.md R7; 70_reset_and_hazards.md R370). -/
def State.cost (s : State) (op : Nat) (taken : Bool) : Nat := s.bus.cfg.tickCost op taken

/-- `TickCost` of the machine for the instruction behind 0xCB with second byte `sub`, both bytes. -/
def State.costSecondary (s : State) (sub : Nat) : Nat := s.bus.cfg.tickCostSecondary sub

/-- `raise Fatal(kind, info)` (00_scope.md R10; 60_exceptions.md R272). -/
def State.raise (s : State) (f : Fault) : State := { s with cpu := { s.cpu with fault := some f } }

/-- The bus replaced. -/
def State.setBus (s : State) (b : Bus) : State := { s with bus := b }

end Sys2Proof.Machine
end

