-- ==== Sys2Proof/Machine/Ops.lean ====
section
/-! DEFINITION. The operations that the meanings share: the pseudocode primitives of 00_scope.md R10 over memory, the
fetch of an instruction, taking an interrupt and returning from one (60_exceptions.md R290 to R294), and one
operation per shape of instruction. -/

namespace Sys2Proof.Machine

/-- What a meaning answers. -/
abbrev Out := Host.Outcome State Fault Refusal

/-! ## Operations that a fatal error can end -/

/-- The result of an operation: a value with the state after it, or the state in which a fatal error was raised, with
the changes made before it kept (60_exceptions.md R272, R275). -/
inductive Res (α : Type) where
  | ok (v : α) (s : State)
  | fatal (s : State)

/-- Goes on after an operation; the first fatal error ends it all (R276). -/
def Res.bind {α β : Type} (x : Res α) (f : α → State → Res β) : Res β :=
  match x with
  | .ok v s => f v s
  | .fatal s => .fatal s

/-- Ends a Step: the tick cost is added where nothing was fatal (60_exceptions.md R290), and only there (R272). -/
def Res.finish (x : Res Unit) (cost : Nat) : Out :=
  match x with
  | .ok _ s => .next (s.tick cost)
  | .fatal s => .next s

/-! ## Memory (00_scope.md R10) -/

/-- `MemRead(a, 1)`. -/
def memRead (a : Word) (s : State) : Res Byte :=
  match s.bus.read a with
  | .ok v b => .ok v (s.setBus b)
  | .fatal a b => .fatal ((s.setBus b).raise (.cartridgeAccess a))

/-- `MemWrite(a, 1, v)`. -/
def memWrite (a : Word) (v : Byte) (s : State) : Res Unit :=
  match s.bus.write a v with
  | .ok _ b => .ok () (s.setBus b)
  | .fatal a b => .fatal ((s.setBus b).raise (.cartridgeAccess a))

/-- `MemRead(a, 2)`: low byte first, the address wraps. No instruction of the table uses it. -/
def memRead16 (a : Word) (s : State) : Res Word :=
  (memRead a s).bind fun lo s => (memRead (a + 1) s).bind fun hi s => .ok (word hi lo) s

/-- `MemWrite(a, 2, v)`: low byte first, the address wraps. -/
def memWrite16 (a v : Word) (s : State) : Res Unit :=
  (memWrite a (loByte v) s).bind fun _ s => memWrite (a + 1) (hiByte v) s

/-- `Push16(v)`: high byte first, `SP` decremented before each write. -/
def push16 (v : Word) (s : State) : Res Unit :=
  let s := s.setSp (s.cpu.sp - 1)
  (memWrite s.cpu.sp (hiByte v) s).bind fun _ s =>
    let s := s.setSp (s.cpu.sp - 1)
    memWrite s.cpu.sp (loByte v) s

/-- `Pop16()`: low byte first, `SP` incremented after each read. -/
def pop16 (s : State) : Res Word :=
  (memRead s.cpu.sp s).bind fun lo s =>
    let s := s.setSp (s.cpu.sp + 1)
    (memRead s.cpu.sp s).bind fun hi s => .ok (word hi lo) (s.setSp (s.cpu.sp + 1))

/-! ## Fetch (00_scope.md R10) -/

/-- `FetchOp()`: under `skip_inc` the address is not advanced, once (47_system.md R261). -/
def fetchOp (s : State) : Res Byte :=
  (memRead s.cpu.pc s).bind fun v s =>
    .ok v (if s.cpu.skipInc then s.setSkipInc false else s.setPc (s.cpu.pc + 1))

/-- `Fetch8()`. -/
def fetch8 (s : State) : Res Byte :=
  (memRead s.cpu.pc s).bind fun v s => .ok v (s.setPc (s.cpu.pc + 1))

/-- `Fetch16()`: low byte first. -/
def fetch16 (s : State) : Res Word :=
  (fetch8 s).bind fun lo s => (fetch8 s).bind fun hi s => .ok (word hi lo) s

/-- An instruction with all its bytes: every rule fetches its operand bytes before anything else it does (R11;
47_system.md R265 for the byte after 0xCB; log 25). -/
def fetchInstr (s : State) : Res Instr :=
  (fetchOp s).bind fun op s =>
    match decodeOp op with
    | .op i => .ok i s
    | .n8 f => (fetch8 s).bind fun n s => .ok (f n) s
    | .n16 f => (fetch16 s).bind fun nn s => .ok (f nn) s
    | .secondary => (fetch8 s).bind fun sub s => .ok (decodeSecondary sub) s

/-! ## Interrupts (60_exceptions.md R281 to R295) -/

/-- `IE & IF & 0x1F`: the sources that are pending and enabled (R290, R295). -/
def Bus.pending (b : Bus) : BitVec 5 := b.io.ie.extractLsb' 0 5 &&& b.io.ifl

/-- The index of the lowest set bit: the source of the highest priority (R284). -/
def firstSource (pend : BitVec 5) : Option (Fin 5) :=
  if pend.getLsbD 0 then some 0
  else if pend.getLsbD 1 then some 1
  else if pend.getLsbD 2 then some 2
  else if pend.getLsbD 3 then some 3
  else if pend.getLsbD 4 then some 4
  else none

/-- `IF[i] <- 0` (R283). -/
def Bus.acknowledge (b : Bus) (i : Fin 5) : Bus :=
  { b with io := { b.io with ifl := b.io.ifl &&& ~~~(1#5 <<< i.val) } }

/-- `IF[i] <- 1` (R281). -/
def Bus.request (b : Bus) (i : Fin 5) : Bus :=
  { b with io := { b.io with ifl := b.io.ifl ||| (1#5 <<< i.val) } }

/-- The wake rule: a pending and enabled source ends `halted`, whatever `IME` is (R292). -/
def State.wake (s : State) : State :=
  if s.cpu.halted && decide (s.bus.pending ≠ 0) then s.setHalted false else s

/-- The source that a Step dispatches: none with `IME = 0` (R291). -/
def State.dispatched (s : State) : Option (Fin 5) := if s.cpu.ime then firstSource s.bus.pending else none

/-- `Dispatch(i)`, taking an interrupt (R293): the pending bit, `IME`, `halted` and `stopped` are cleared, `PC` is
pushed, control goes to the vector; no fetch occurs. -/
def takeInterrupt (i : Fin 5) (s : State) : Out :=
  let s := (((s.setBus (s.bus.acknowledge i)).setIme false).setHalted false).setStopped false
  ((push16 s.cpu.pc s).bind fun _ s => .ok () (s.setPc (Config.intVector i))).finish s.bus.cfg.dispatchTicks

/-- The return from an interrupt (46_control.md R254; R294): `PC` popped, then `IME` set. -/
def returnFromInterrupt (s : State) : Res Unit :=
  (pop16 s).bind fun v s => .ok () ((s.setPc v).setIme true)

/-! ## One operation per shape: `cost` is the tick cost -/

/-- An instruction that touches no memory after its fetch ends so. -/
def done (cost : Nat) (s : State) : Out := .next (s.tick cost)

/-- Reads the byte at `a`, then goes on with it to a state: nothing more can be fatal. -/
def withByte (cost : Nat) (a : Word) (f : Byte → State → State) (s : State) : Out :=
  ((memRead a s).bind fun v s => .ok () (f v s)).finish cost

/-- Stores the byte `v` at `a`, then goes on to a state. -/
def storeByte (cost : Nat) (a : Word) (v : Byte) (f : State → State) (s : State) : Out :=
  ((memWrite a v s).bind fun _ s => .ok () (f s)).finish cost

/-- Reads the byte at `HL`, writes the new one there, then the flags (42_alu8.md R185, 44_rotate_shift.md R213). -/
def modifyHl (cost : Nat) (f : Byte → Flags → Byte × Flags) (s : State) : Out :=
  ((memRead s.hl s).bind fun old s =>
    let r := f old s.cpu.flags
    (memWrite s.hl r.1 s).bind fun _ s => .ok () (s.setFlags r.2)).finish cost

/-- A register and the flags replaced by a function of both. -/
def modifyReg (cost : Nat) (r : Reg8) (f : Byte → Flags → Byte × Flags) (s : State) : Out :=
  let x := f (s.reg r) s.cpu.flags
  done cost ((s.setReg r x.1).setFlags x.2)

/-- `A` and the flags after one of the eight operations with the operand `x` (42_alu8.md R175). -/
def State.applyAlu (s : State) (op : AluOp) (x : Byte) : State :=
  let r := alu op s.cpu.regs.a x s.cpu.flags
  (s.setReg .a r.1).setFlags r.2

/-- A jump that is taken or not (46_control.md R246, R249). -/
def jumpIf (taken : Bool) (cost : Bool → Nat) (target : Word) (s : State) : Out :=
  done (cost taken) (if taken then s.setPc target else s)

/-- A call to `target` (46_control.md R250, R257). -/
def callTo (cost : Nat) (target : Word) (s : State) : Out :=
  ((push16 s.cpu.pc s).bind fun _ s => .ok () (s.setPc target)).finish cost

/-- A return (46_control.md R252). -/
def returnTo (cost : Nat) (s : State) : Out :=
  ((pop16 s).bind fun v s => .ok () (s.setPc v)).finish cost

/-- A push of a word (41_load16_stack.md R169, R170). -/
def pushWord (cost : Nat) (v : Word) (s : State) : Out := (push16 v s).finish cost

/-- A pop into what `f` writes (41_load16_stack.md R171, R172). -/
def popWord (cost : Nat) (f : Word → State → State) (s : State) : Out :=
  ((pop16 s).bind fun v s => .ok () (f v s)).finish cost

/-- The quirk condition of `HALT`: `IME = 0` and no source pending and enabled (47_system.md R261). -/
def State.haltQuirk (s : State) : Bool := !s.cpu.ime && decide (s.bus.pending = 0)

/-- `HALT` under a value of the parameter `HaltWithIME0Halts` (47_system.md R261). -/
def State.haltWith (s : State) (halts : Bool) : State :=
  let quirk := s.haltQuirk
  let t := if !quirk || halts then s.setHalted true else s
  if quirk then t.setSkipInc true else t

end Sys2Proof.Machine
end

