-- ==== Sys2Proof/Machine/Alu16.lean ====
section
/-! DEFINITION. The meanings of the 16-bit arithmetic (43_alu16.md R205 to R210). `PC` is past the whole instruction. -/

namespace Sys2Proof.Machine

/-! ## Shared operations -/

/-- `rp[p]` moved by `d` (R206, R207). -/
def stepPair (cost : Nat) (p : Pair) (d : Word) (s : State) : Out := done cost (s.setPair p (s.pair p + d))

/-- `ADD HL,rp` (R208). -/
def addHlPair (cost : Nat) (p : Pair) (s : State) : Out :=
  let r := addWord s.hl (s.pair p) s.cpu.flags
  done cost ((s.setStackPair .hl r.1).setFlags r.2)

/-! ## The instructions -/

/-- `INC BC` (R206). -/
def execIncBc (s : State) : Out := stepPair (s.cost 0x03 true) .bc 1 s

/-- `ADD HL,BC` (R208). -/
def execAddHlBc (s : State) : Out := addHlPair (s.cost 0x09 true) .bc s

/-- `DEC BC` (R207). -/
def execDecBc (s : State) : Out := stepPair (s.cost 0x0B true) .bc (-1) s

/-- `INC DE` (R206). -/
def execIncDe (s : State) : Out := stepPair (s.cost 0x13 true) .de 1 s

/-- `ADD HL,DE` (R208). -/
def execAddHlDe (s : State) : Out := addHlPair (s.cost 0x19 true) .de s

/-- `DEC DE` (R207). -/
def execDecDe (s : State) : Out := stepPair (s.cost 0x1B true) .de (-1) s

/-- `INC HL` (R206). -/
def execIncHl (s : State) : Out := stepPair (s.cost 0x23 true) .hl 1 s

/-- `ADD HL,HL` (R208). -/
def execAddHlHl (s : State) : Out := addHlPair (s.cost 0x29 true) .hl s

/-- `DEC HL` (R207). -/
def execDecHl (s : State) : Out := stepPair (s.cost 0x2B true) .hl (-1) s

/-- `INC SP` (R206). -/
def execIncSp (s : State) : Out := stepPair (s.cost 0x33 true) .sp 1 s

/-- `ADD HL,SP` (R208). -/
def execAddHlSp (s : State) : Out := addHlPair (s.cost 0x39 true) .sp s

/-- `DEC SP` (R207). -/
def execDecSp (s : State) : Out := stepPair (s.cost 0x3B true) .sp (-1) s

/-- `ADD SP,e` (R209). -/
def execAddSpE (e : Byte) (s : State) : Out :=
  done (s.cost 0xE8 true) ((s.setSp (addSigned s.cpu.sp e).1).setFlags (addSigned s.cpu.sp e).2)

/-- `LD HL,SP+e` (R210). -/
def execLdHlSpE (e : Byte) (s : State) : Out :=
  done (s.cost 0xF8 true) ((s.setStackPair .hl (addSigned s.cpu.sp e).1).setFlags (addSigned s.cpu.sp e).2)

end Sys2Proof.Machine
end

