-- ==== Sys2Proof/Machine/Alu8.lean ====
section
/-! DEFINITION. The meanings of the 8-bit arithmetic and logic (42_alu8.md R175 to R202). `PC` is past the whole instruction. -/

namespace Sys2Proof.Machine

/-! ## Shared operations -/

/-- The eight operations with a register (R175). -/
def aluReg (cost : Nat) (op : AluOp) (r : Reg8) (s : State) : Out := done cost (s.applyAlu op (s.reg r))

/-- The eight operations with the byte at `HL` (R175). -/
def aluMem (cost : Nat) (op : AluOp) (s : State) : Out := withByte cost s.hl (fun v s => s.applyAlu op v) s

/-- The eight operations with an immediate (R175). -/
def aluImm (cost : Nat) (op : AluOp) (n : Byte) (s : State) : Out := done cost (s.applyAlu op n)

/-- The flags alone replaced (R201, R202). -/
def changeFlags (cost : Nat) (f : Flags → Flags) (s : State) : Out := done cost (s.setFlags (f s.cpu.flags))

/-! ## The instructions -/

/-- `INC B` (R184). -/
def execIncB (s : State) : Out := modifyReg (s.cost 0x04 true) .b incByte s

/-- `DEC B` (R186). -/
def execDecB (s : State) : Out := modifyReg (s.cost 0x05 true) .b decByte s

/-- `INC C` (R184). -/
def execIncC (s : State) : Out := modifyReg (s.cost 0x0C true) .c incByte s

/-- `DEC C` (R186). -/
def execDecC (s : State) : Out := modifyReg (s.cost 0x0D true) .c decByte s

/-- `INC D` (R184). -/
def execIncD (s : State) : Out := modifyReg (s.cost 0x14 true) .d incByte s

/-- `DEC D` (R186). -/
def execDecD (s : State) : Out := modifyReg (s.cost 0x15 true) .d decByte s

/-- `INC E` (R184). -/
def execIncE (s : State) : Out := modifyReg (s.cost 0x1C true) .e incByte s

/-- `DEC E` (R186). -/
def execDecE (s : State) : Out := modifyReg (s.cost 0x1D true) .e decByte s

/-- `INC H` (R184). -/
def execIncH (s : State) : Out := modifyReg (s.cost 0x24 true) .h incByte s

/-- `DEC H` (R186). -/
def execDecH (s : State) : Out := modifyReg (s.cost 0x25 true) .h decByte s

/-- `DAA` (R199). -/
def execDaa (s : State) : Out := modifyReg (s.cost 0x27 true) .a daa s

/-- `INC L` (R184). -/
def execIncL (s : State) : Out := modifyReg (s.cost 0x2C true) .l incByte s

/-- `DEC L` (R186). -/
def execDecL (s : State) : Out := modifyReg (s.cost 0x2D true) .l decByte s

/-- `CPL` (R200). -/
def execCpl (s : State) : Out :=
  done (s.cost 0x2F true) ((s.setReg .a (~~~(s.reg .a))).setFlags s.cpu.flags.cpl)

/-- `INC (HL)` (R185). -/
def execIncMhl (s : State) : Out := modifyHl (s.cost 0x34 true) incByte s

/-- `DEC (HL)` (R187). -/
def execDecMhl (s : State) : Out := modifyHl (s.cost 0x35 true) decByte s

/-- `SCF` (R201). -/
def execScf (s : State) : Out := changeFlags (s.cost 0x37 true) Flags.scf s

/-- `INC A` (R184). -/
def execIncA (s : State) : Out := modifyReg (s.cost 0x3C true) .a incByte s

/-- `DEC A` (R186). -/
def execDecA (s : State) : Out := modifyReg (s.cost 0x3D true) .a decByte s

/-- `CCF` (R202). -/
def execCcf (s : State) : Out := changeFlags (s.cost 0x3F true) Flags.ccf s

/-- `ADD A,B` (R176). -/
def execAddAB (s : State) : Out := aluReg (s.cost 0x80 true) .add .b s

/-- `ADD A,C` (R176). -/
def execAddAC (s : State) : Out := aluReg (s.cost 0x81 true) .add .c s

/-- `ADD A,D` (R176). -/
def execAddAD (s : State) : Out := aluReg (s.cost 0x82 true) .add .d s

/-- `ADD A,E` (R176). -/
def execAddAE (s : State) : Out := aluReg (s.cost 0x83 true) .add .e s

/-- `ADD A,H` (R176). -/
def execAddAH (s : State) : Out := aluReg (s.cost 0x84 true) .add .h s

/-- `ADD A,L` (R176). -/
def execAddAL (s : State) : Out := aluReg (s.cost 0x85 true) .add .l s

/-- `ADD A,(HL)` (R176). -/
def execAddAMhl (s : State) : Out := aluMem (s.cost 0x86 true) .add s

/-- `ADD A,A` (R176). -/
def execAddAA (s : State) : Out := aluReg (s.cost 0x87 true) .add .a s

/-- `ADC A,B` (R177). -/
def execAdcAB (s : State) : Out := aluReg (s.cost 0x88 true) .adc .b s

/-- `ADC A,C` (R177). -/
def execAdcAC (s : State) : Out := aluReg (s.cost 0x89 true) .adc .c s

/-- `ADC A,D` (R177). -/
def execAdcAD (s : State) : Out := aluReg (s.cost 0x8A true) .adc .d s

/-- `ADC A,E` (R177). -/
def execAdcAE (s : State) : Out := aluReg (s.cost 0x8B true) .adc .e s

/-- `ADC A,H` (R177). -/
def execAdcAH (s : State) : Out := aluReg (s.cost 0x8C true) .adc .h s

/-- `ADC A,L` (R177). -/
def execAdcAL (s : State) : Out := aluReg (s.cost 0x8D true) .adc .l s

/-- `ADC A,(HL)` (R177). -/
def execAdcAMhl (s : State) : Out := aluMem (s.cost 0x8E true) .adc s

/-- `ADC A,A` (R177). -/
def execAdcAA (s : State) : Out := aluReg (s.cost 0x8F true) .adc .a s

/-- `SUB B` (R178). -/
def execSubB (s : State) : Out := aluReg (s.cost 0x90 true) .sub .b s

/-- `SUB C` (R178). -/
def execSubC (s : State) : Out := aluReg (s.cost 0x91 true) .sub .c s

/-- `SUB D` (R178). -/
def execSubD (s : State) : Out := aluReg (s.cost 0x92 true) .sub .d s

/-- `SUB E` (R178). -/
def execSubE (s : State) : Out := aluReg (s.cost 0x93 true) .sub .e s

/-- `SUB H` (R178). -/
def execSubH (s : State) : Out := aluReg (s.cost 0x94 true) .sub .h s

/-- `SUB L` (R178). -/
def execSubL (s : State) : Out := aluReg (s.cost 0x95 true) .sub .l s

/-- `SUB (HL)` (R178). -/
def execSubMhl (s : State) : Out := aluMem (s.cost 0x96 true) .sub s

/-- `SUB A` (R178). -/
def execSubA (s : State) : Out := aluReg (s.cost 0x97 true) .sub .a s

/-- `SBC A,B` (R179). -/
def execSbcAB (s : State) : Out := aluReg (s.cost 0x98 true) .sbc .b s

/-- `SBC A,C` (R179). -/
def execSbcAC (s : State) : Out := aluReg (s.cost 0x99 true) .sbc .c s

/-- `SBC A,D` (R179). -/
def execSbcAD (s : State) : Out := aluReg (s.cost 0x9A true) .sbc .d s

/-- `SBC A,E` (R179). -/
def execSbcAE (s : State) : Out := aluReg (s.cost 0x9B true) .sbc .e s

/-- `SBC A,H` (R179). -/
def execSbcAH (s : State) : Out := aluReg (s.cost 0x9C true) .sbc .h s

/-- `SBC A,L` (R179). -/
def execSbcAL (s : State) : Out := aluReg (s.cost 0x9D true) .sbc .l s

/-- `SBC A,(HL)` (R179). -/
def execSbcAMhl (s : State) : Out := aluMem (s.cost 0x9E true) .sbc s

/-- `SBC A,A` (R179). -/
def execSbcAA (s : State) : Out := aluReg (s.cost 0x9F true) .sbc .a s

/-- `AND B` (R180). -/
def execAndB (s : State) : Out := aluReg (s.cost 0xA0 true) .and .b s

/-- `AND C` (R180). -/
def execAndC (s : State) : Out := aluReg (s.cost 0xA1 true) .and .c s

/-- `AND D` (R180). -/
def execAndD (s : State) : Out := aluReg (s.cost 0xA2 true) .and .d s

/-- `AND E` (R180). -/
def execAndE (s : State) : Out := aluReg (s.cost 0xA3 true) .and .e s

/-- `AND H` (R180). -/
def execAndH (s : State) : Out := aluReg (s.cost 0xA4 true) .and .h s

/-- `AND L` (R180). -/
def execAndL (s : State) : Out := aluReg (s.cost 0xA5 true) .and .l s

/-- `AND (HL)` (R180). -/
def execAndMhl (s : State) : Out := aluMem (s.cost 0xA6 true) .and s

/-- `AND A` (R180). -/
def execAndA (s : State) : Out := aluReg (s.cost 0xA7 true) .and .a s

/-- `XOR B` (R181). -/
def execXorB (s : State) : Out := aluReg (s.cost 0xA8 true) .xor .b s

/-- `XOR C` (R181). -/
def execXorC (s : State) : Out := aluReg (s.cost 0xA9 true) .xor .c s

/-- `XOR D` (R181). -/
def execXorD (s : State) : Out := aluReg (s.cost 0xAA true) .xor .d s

/-- `XOR E` (R181). -/
def execXorE (s : State) : Out := aluReg (s.cost 0xAB true) .xor .e s

/-- `XOR H` (R181). -/
def execXorH (s : State) : Out := aluReg (s.cost 0xAC true) .xor .h s

/-- `XOR L` (R181). -/
def execXorL (s : State) : Out := aluReg (s.cost 0xAD true) .xor .l s

/-- `XOR (HL)` (R181). -/
def execXorMhl (s : State) : Out := aluMem (s.cost 0xAE true) .xor s

/-- `XOR A` (R181). -/
def execXorA (s : State) : Out := aluReg (s.cost 0xAF true) .xor .a s

/-- `OR B` (R182). -/
def execOrB (s : State) : Out := aluReg (s.cost 0xB0 true) .or .b s

/-- `OR C` (R182). -/
def execOrC (s : State) : Out := aluReg (s.cost 0xB1 true) .or .c s

/-- `OR D` (R182). -/
def execOrD (s : State) : Out := aluReg (s.cost 0xB2 true) .or .d s

/-- `OR E` (R182). -/
def execOrE (s : State) : Out := aluReg (s.cost 0xB3 true) .or .e s

/-- `OR H` (R182). -/
def execOrH (s : State) : Out := aluReg (s.cost 0xB4 true) .or .h s

/-- `OR L` (R182). -/
def execOrL (s : State) : Out := aluReg (s.cost 0xB5 true) .or .l s

/-- `OR (HL)` (R182). -/
def execOrMhl (s : State) : Out := aluMem (s.cost 0xB6 true) .or s

/-- `OR A` (R182). -/
def execOrA (s : State) : Out := aluReg (s.cost 0xB7 true) .or .a s

/-- `CP B` (R183). -/
def execCpB (s : State) : Out := aluReg (s.cost 0xB8 true) .cp .b s

/-- `CP C` (R183). -/
def execCpC (s : State) : Out := aluReg (s.cost 0xB9 true) .cp .c s

/-- `CP D` (R183). -/
def execCpD (s : State) : Out := aluReg (s.cost 0xBA true) .cp .d s

/-- `CP E` (R183). -/
def execCpE (s : State) : Out := aluReg (s.cost 0xBB true) .cp .e s

/-- `CP H` (R183). -/
def execCpH (s : State) : Out := aluReg (s.cost 0xBC true) .cp .h s

/-- `CP L` (R183). -/
def execCpL (s : State) : Out := aluReg (s.cost 0xBD true) .cp .l s

/-- `CP (HL)` (R183). -/
def execCpMhl (s : State) : Out := aluMem (s.cost 0xBE true) .cp s

/-- `CP A` (R183). -/
def execCpA (s : State) : Out := aluReg (s.cost 0xBF true) .cp .a s

/-- `ADD A,n` (R176). -/
def execAddAN (n : Byte) (s : State) : Out := aluImm (s.cost 0xC6 true) .add n s

/-- `ADC A,n` (R177). -/
def execAdcAN (n : Byte) (s : State) : Out := aluImm (s.cost 0xCE true) .adc n s

/-- `SUB n` (R178). -/
def execSubN (n : Byte) (s : State) : Out := aluImm (s.cost 0xD6 true) .sub n s

/-- `SBC A,n` (R179). -/
def execSbcAN (n : Byte) (s : State) : Out := aluImm (s.cost 0xDE true) .sbc n s

/-- `AND n` (R180). -/
def execAndN (n : Byte) (s : State) : Out := aluImm (s.cost 0xE6 true) .and n s

/-- `XOR n` (R181). -/
def execXorN (n : Byte) (s : State) : Out := aluImm (s.cost 0xEE true) .xor n s

/-- `OR n` (R182). -/
def execOrN (n : Byte) (s : State) : Out := aluImm (s.cost 0xF6 true) .or n s

/-- `CP n` (R183). -/
def execCpN (n : Byte) (s : State) : Out := aluImm (s.cost 0xFE true) .cp n s

end Sys2Proof.Machine
end

