-- ==== Sys2Proof/Machine/Bit.lean ====
section
/-! DEFINITION. The meanings of the single-bit instructions (45_bit.md R235 to R241). `PC` is past the whole instruction. -/

namespace Sys2Proof.Machine

/-! ## Shared operations -/

/-- `BIT b,r` (R236). -/
def bitReg (cost : Nat) (b : Fin 8) (r : Reg8) (s : State) : Out :=
  done cost (s.setFlags (bitTest b (s.reg r) s.cpu.flags))

/-- `BIT b,(HL)`: a read, no write (R237). -/
def bitMem (cost : Nat) (b : Fin 8) (s : State) : Out :=
  withByte cost s.hl (fun v s => s.setFlags (bitTest b v s.cpu.flags)) s

/-- `SET b,r` (R238) and `RES b,r` (R240), `f` being the change of the byte; no flag changes (R235). -/
def changeReg (cost : Nat) (f : Byte → Byte) (r : Reg8) (s : State) : Out := done cost (s.setReg r (f (s.reg r)))

/-- `SET b,(HL)` (R239) and `RES b,(HL)` (R241); no flag changes (R235). -/
def changeMem (cost : Nat) (f : Byte → Byte) (s : State) : Out := modifyHl cost (fun v fl => (f v, fl)) s

/-! ## The instructions -/

/-- `BIT 0,B` (R236). -/
def execBit0B (s : State) : Out := bitReg (s.costSecondary 0x40) 0 .b s

/-- `BIT 0,C` (R236). -/
def execBit0C (s : State) : Out := bitReg (s.costSecondary 0x41) 0 .c s

/-- `BIT 0,D` (R236). -/
def execBit0D (s : State) : Out := bitReg (s.costSecondary 0x42) 0 .d s

/-- `BIT 0,E` (R236). -/
def execBit0E (s : State) : Out := bitReg (s.costSecondary 0x43) 0 .e s

/-- `BIT 0,H` (R236). -/
def execBit0H (s : State) : Out := bitReg (s.costSecondary 0x44) 0 .h s

/-- `BIT 0,L` (R236). -/
def execBit0L (s : State) : Out := bitReg (s.costSecondary 0x45) 0 .l s

/-- `BIT 0,(HL)` (R237). -/
def execBit0Mhl (s : State) : Out := bitMem (s.costSecondary 0x46) 0 s

/-- `BIT 0,A` (R236). -/
def execBit0A (s : State) : Out := bitReg (s.costSecondary 0x47) 0 .a s

/-- `BIT 1,B` (R236). -/
def execBit1B (s : State) : Out := bitReg (s.costSecondary 0x48) 1 .b s

/-- `BIT 1,C` (R236). -/
def execBit1C (s : State) : Out := bitReg (s.costSecondary 0x49) 1 .c s

/-- `BIT 1,D` (R236). -/
def execBit1D (s : State) : Out := bitReg (s.costSecondary 0x4A) 1 .d s

/-- `BIT 1,E` (R236). -/
def execBit1E (s : State) : Out := bitReg (s.costSecondary 0x4B) 1 .e s

/-- `BIT 1,H` (R236). -/
def execBit1H (s : State) : Out := bitReg (s.costSecondary 0x4C) 1 .h s

/-- `BIT 1,L` (R236). -/
def execBit1L (s : State) : Out := bitReg (s.costSecondary 0x4D) 1 .l s

/-- `BIT 1,(HL)` (R237). -/
def execBit1Mhl (s : State) : Out := bitMem (s.costSecondary 0x4E) 1 s

/-- `BIT 1,A` (R236). -/
def execBit1A (s : State) : Out := bitReg (s.costSecondary 0x4F) 1 .a s

/-- `BIT 2,B` (R236). -/
def execBit2B (s : State) : Out := bitReg (s.costSecondary 0x50) 2 .b s

/-- `BIT 2,C` (R236). -/
def execBit2C (s : State) : Out := bitReg (s.costSecondary 0x51) 2 .c s

/-- `BIT 2,D` (R236). -/
def execBit2D (s : State) : Out := bitReg (s.costSecondary 0x52) 2 .d s

/-- `BIT 2,E` (R236). -/
def execBit2E (s : State) : Out := bitReg (s.costSecondary 0x53) 2 .e s

/-- `BIT 2,H` (R236). -/
def execBit2H (s : State) : Out := bitReg (s.costSecondary 0x54) 2 .h s

/-- `BIT 2,L` (R236). -/
def execBit2L (s : State) : Out := bitReg (s.costSecondary 0x55) 2 .l s

/-- `BIT 2,(HL)` (R237). -/
def execBit2Mhl (s : State) : Out := bitMem (s.costSecondary 0x56) 2 s

/-- `BIT 2,A` (R236). -/
def execBit2A (s : State) : Out := bitReg (s.costSecondary 0x57) 2 .a s

/-- `BIT 3,B` (R236). -/
def execBit3B (s : State) : Out := bitReg (s.costSecondary 0x58) 3 .b s

/-- `BIT 3,C` (R236). -/
def execBit3C (s : State) : Out := bitReg (s.costSecondary 0x59) 3 .c s

/-- `BIT 3,D` (R236). -/
def execBit3D (s : State) : Out := bitReg (s.costSecondary 0x5A) 3 .d s

/-- `BIT 3,E` (R236). -/
def execBit3E (s : State) : Out := bitReg (s.costSecondary 0x5B) 3 .e s

/-- `BIT 3,H` (R236). -/
def execBit3H (s : State) : Out := bitReg (s.costSecondary 0x5C) 3 .h s

/-- `BIT 3,L` (R236). -/
def execBit3L (s : State) : Out := bitReg (s.costSecondary 0x5D) 3 .l s

/-- `BIT 3,(HL)` (R237). -/
def execBit3Mhl (s : State) : Out := bitMem (s.costSecondary 0x5E) 3 s

/-- `BIT 3,A` (R236). -/
def execBit3A (s : State) : Out := bitReg (s.costSecondary 0x5F) 3 .a s

/-- `BIT 4,B` (R236). -/
def execBit4B (s : State) : Out := bitReg (s.costSecondary 0x60) 4 .b s

/-- `BIT 4,C` (R236). -/
def execBit4C (s : State) : Out := bitReg (s.costSecondary 0x61) 4 .c s

/-- `BIT 4,D` (R236). -/
def execBit4D (s : State) : Out := bitReg (s.costSecondary 0x62) 4 .d s

/-- `BIT 4,E` (R236). -/
def execBit4E (s : State) : Out := bitReg (s.costSecondary 0x63) 4 .e s

/-- `BIT 4,H` (R236). -/
def execBit4H (s : State) : Out := bitReg (s.costSecondary 0x64) 4 .h s

/-- `BIT 4,L` (R236). -/
def execBit4L (s : State) : Out := bitReg (s.costSecondary 0x65) 4 .l s

/-- `BIT 4,(HL)` (R237). -/
def execBit4Mhl (s : State) : Out := bitMem (s.costSecondary 0x66) 4 s

/-- `BIT 4,A` (R236). -/
def execBit4A (s : State) : Out := bitReg (s.costSecondary 0x67) 4 .a s

/-- `BIT 5,B` (R236). -/
def execBit5B (s : State) : Out := bitReg (s.costSecondary 0x68) 5 .b s

/-- `BIT 5,C` (R236). -/
def execBit5C (s : State) : Out := bitReg (s.costSecondary 0x69) 5 .c s

/-- `BIT 5,D` (R236). -/
def execBit5D (s : State) : Out := bitReg (s.costSecondary 0x6A) 5 .d s

/-- `BIT 5,E` (R236). -/
def execBit5E (s : State) : Out := bitReg (s.costSecondary 0x6B) 5 .e s

/-- `BIT 5,H` (R236). -/
def execBit5H (s : State) : Out := bitReg (s.costSecondary 0x6C) 5 .h s

/-- `BIT 5,L` (R236). -/
def execBit5L (s : State) : Out := bitReg (s.costSecondary 0x6D) 5 .l s

/-- `BIT 5,(HL)` (R237). -/
def execBit5Mhl (s : State) : Out := bitMem (s.costSecondary 0x6E) 5 s

/-- `BIT 5,A` (R236). -/
def execBit5A (s : State) : Out := bitReg (s.costSecondary 0x6F) 5 .a s

/-- `BIT 6,B` (R236). -/
def execBit6B (s : State) : Out := bitReg (s.costSecondary 0x70) 6 .b s

/-- `BIT 6,C` (R236). -/
def execBit6C (s : State) : Out := bitReg (s.costSecondary 0x71) 6 .c s

/-- `BIT 6,D` (R236). -/
def execBit6D (s : State) : Out := bitReg (s.costSecondary 0x72) 6 .d s

/-- `BIT 6,E` (R236). -/
def execBit6E (s : State) : Out := bitReg (s.costSecondary 0x73) 6 .e s

/-- `BIT 6,H` (R236). -/
def execBit6H (s : State) : Out := bitReg (s.costSecondary 0x74) 6 .h s

/-- `BIT 6,L` (R236). -/
def execBit6L (s : State) : Out := bitReg (s.costSecondary 0x75) 6 .l s

/-- `BIT 6,(HL)` (R237). -/
def execBit6Mhl (s : State) : Out := bitMem (s.costSecondary 0x76) 6 s

/-- `BIT 6,A` (R236). -/
def execBit6A (s : State) : Out := bitReg (s.costSecondary 0x77) 6 .a s

/-- `BIT 7,B` (R236). -/
def execBit7B (s : State) : Out := bitReg (s.costSecondary 0x78) 7 .b s

/-- `BIT 7,C` (R236). -/
def execBit7C (s : State) : Out := bitReg (s.costSecondary 0x79) 7 .c s

/-- `BIT 7,D` (R236). -/
def execBit7D (s : State) : Out := bitReg (s.costSecondary 0x7A) 7 .d s

/-- `BIT 7,E` (R236). -/
def execBit7E (s : State) : Out := bitReg (s.costSecondary 0x7B) 7 .e s

/-- `BIT 7,H` (R236). -/
def execBit7H (s : State) : Out := bitReg (s.costSecondary 0x7C) 7 .h s

/-- `BIT 7,L` (R236). -/
def execBit7L (s : State) : Out := bitReg (s.costSecondary 0x7D) 7 .l s

/-- `BIT 7,(HL)` (R237). -/
def execBit7Mhl (s : State) : Out := bitMem (s.costSecondary 0x7E) 7 s

/-- `BIT 7,A` (R236). -/
def execBit7A (s : State) : Out := bitReg (s.costSecondary 0x7F) 7 .a s

/-- `RES 0,B` (R240). -/
def execRes0B (s : State) : Out := changeReg (s.costSecondary 0x80) (bitRes 0) .b s

/-- `RES 0,C` (R240). -/
def execRes0C (s : State) : Out := changeReg (s.costSecondary 0x81) (bitRes 0) .c s

/-- `RES 0,D` (R240). -/
def execRes0D (s : State) : Out := changeReg (s.costSecondary 0x82) (bitRes 0) .d s

/-- `RES 0,E` (R240). -/
def execRes0E (s : State) : Out := changeReg (s.costSecondary 0x83) (bitRes 0) .e s

/-- `RES 0,H` (R240). -/
def execRes0H (s : State) : Out := changeReg (s.costSecondary 0x84) (bitRes 0) .h s

/-- `RES 0,L` (R240). -/
def execRes0L (s : State) : Out := changeReg (s.costSecondary 0x85) (bitRes 0) .l s

/-- `RES 0,(HL)` (R241). -/
def execRes0Mhl (s : State) : Out := changeMem (s.costSecondary 0x86) (bitRes 0) s

/-- `RES 0,A` (R240). -/
def execRes0A (s : State) : Out := changeReg (s.costSecondary 0x87) (bitRes 0) .a s

/-- `RES 1,B` (R240). -/
def execRes1B (s : State) : Out := changeReg (s.costSecondary 0x88) (bitRes 1) .b s

/-- `RES 1,C` (R240). -/
def execRes1C (s : State) : Out := changeReg (s.costSecondary 0x89) (bitRes 1) .c s

/-- `RES 1,D` (R240). -/
def execRes1D (s : State) : Out := changeReg (s.costSecondary 0x8A) (bitRes 1) .d s

/-- `RES 1,E` (R240). -/
def execRes1E (s : State) : Out := changeReg (s.costSecondary 0x8B) (bitRes 1) .e s

/-- `RES 1,H` (R240). -/
def execRes1H (s : State) : Out := changeReg (s.costSecondary 0x8C) (bitRes 1) .h s

/-- `RES 1,L` (R240). -/
def execRes1L (s : State) : Out := changeReg (s.costSecondary 0x8D) (bitRes 1) .l s

/-- `RES 1,(HL)` (R241). -/
def execRes1Mhl (s : State) : Out := changeMem (s.costSecondary 0x8E) (bitRes 1) s

/-- `RES 1,A` (R240). -/
def execRes1A (s : State) : Out := changeReg (s.costSecondary 0x8F) (bitRes 1) .a s

/-- `RES 2,B` (R240). -/
def execRes2B (s : State) : Out := changeReg (s.costSecondary 0x90) (bitRes 2) .b s

/-- `RES 2,C` (R240). -/
def execRes2C (s : State) : Out := changeReg (s.costSecondary 0x91) (bitRes 2) .c s

/-- `RES 2,D` (R240). -/
def execRes2D (s : State) : Out := changeReg (s.costSecondary 0x92) (bitRes 2) .d s

/-- `RES 2,E` (R240). -/
def execRes2E (s : State) : Out := changeReg (s.costSecondary 0x93) (bitRes 2) .e s

/-- `RES 2,H` (R240). -/
def execRes2H (s : State) : Out := changeReg (s.costSecondary 0x94) (bitRes 2) .h s

/-- `RES 2,L` (R240). -/
def execRes2L (s : State) : Out := changeReg (s.costSecondary 0x95) (bitRes 2) .l s

/-- `RES 2,(HL)` (R241). -/
def execRes2Mhl (s : State) : Out := changeMem (s.costSecondary 0x96) (bitRes 2) s

/-- `RES 2,A` (R240). -/
def execRes2A (s : State) : Out := changeReg (s.costSecondary 0x97) (bitRes 2) .a s

/-- `RES 3,B` (R240). -/
def execRes3B (s : State) : Out := changeReg (s.costSecondary 0x98) (bitRes 3) .b s

/-- `RES 3,C` (R240). -/
def execRes3C (s : State) : Out := changeReg (s.costSecondary 0x99) (bitRes 3) .c s

/-- `RES 3,D` (R240). -/
def execRes3D (s : State) : Out := changeReg (s.costSecondary 0x9A) (bitRes 3) .d s

/-- `RES 3,E` (R240). -/
def execRes3E (s : State) : Out := changeReg (s.costSecondary 0x9B) (bitRes 3) .e s

/-- `RES 3,H` (R240). -/
def execRes3H (s : State) : Out := changeReg (s.costSecondary 0x9C) (bitRes 3) .h s

/-- `RES 3,L` (R240). -/
def execRes3L (s : State) : Out := changeReg (s.costSecondary 0x9D) (bitRes 3) .l s

/-- `RES 3,(HL)` (R241). -/
def execRes3Mhl (s : State) : Out := changeMem (s.costSecondary 0x9E) (bitRes 3) s

/-- `RES 3,A` (R240). -/
def execRes3A (s : State) : Out := changeReg (s.costSecondary 0x9F) (bitRes 3) .a s

/-- `RES 4,B` (R240). -/
def execRes4B (s : State) : Out := changeReg (s.costSecondary 0xA0) (bitRes 4) .b s

/-- `RES 4,C` (R240). -/
def execRes4C (s : State) : Out := changeReg (s.costSecondary 0xA1) (bitRes 4) .c s

/-- `RES 4,D` (R240). -/
def execRes4D (s : State) : Out := changeReg (s.costSecondary 0xA2) (bitRes 4) .d s

/-- `RES 4,E` (R240). -/
def execRes4E (s : State) : Out := changeReg (s.costSecondary 0xA3) (bitRes 4) .e s

/-- `RES 4,H` (R240). -/
def execRes4H (s : State) : Out := changeReg (s.costSecondary 0xA4) (bitRes 4) .h s

/-- `RES 4,L` (R240). -/
def execRes4L (s : State) : Out := changeReg (s.costSecondary 0xA5) (bitRes 4) .l s

/-- `RES 4,(HL)` (R241). -/
def execRes4Mhl (s : State) : Out := changeMem (s.costSecondary 0xA6) (bitRes 4) s

/-- `RES 4,A` (R240). -/
def execRes4A (s : State) : Out := changeReg (s.costSecondary 0xA7) (bitRes 4) .a s

/-- `RES 5,B` (R240). -/
def execRes5B (s : State) : Out := changeReg (s.costSecondary 0xA8) (bitRes 5) .b s

/-- `RES 5,C` (R240). -/
def execRes5C (s : State) : Out := changeReg (s.costSecondary 0xA9) (bitRes 5) .c s

/-- `RES 5,D` (R240). -/
def execRes5D (s : State) : Out := changeReg (s.costSecondary 0xAA) (bitRes 5) .d s

/-- `RES 5,E` (R240). -/
def execRes5E (s : State) : Out := changeReg (s.costSecondary 0xAB) (bitRes 5) .e s

/-- `RES 5,H` (R240). -/
def execRes5H (s : State) : Out := changeReg (s.costSecondary 0xAC) (bitRes 5) .h s

/-- `RES 5,L` (R240). -/
def execRes5L (s : State) : Out := changeReg (s.costSecondary 0xAD) (bitRes 5) .l s

/-- `RES 5,(HL)` (R241). -/
def execRes5Mhl (s : State) : Out := changeMem (s.costSecondary 0xAE) (bitRes 5) s

/-- `RES 5,A` (R240). -/
def execRes5A (s : State) : Out := changeReg (s.costSecondary 0xAF) (bitRes 5) .a s

/-- `RES 6,B` (R240). -/
def execRes6B (s : State) : Out := changeReg (s.costSecondary 0xB0) (bitRes 6) .b s

/-- `RES 6,C` (R240). -/
def execRes6C (s : State) : Out := changeReg (s.costSecondary 0xB1) (bitRes 6) .c s

/-- `RES 6,D` (R240). -/
def execRes6D (s : State) : Out := changeReg (s.costSecondary 0xB2) (bitRes 6) .d s

/-- `RES 6,E` (R240). -/
def execRes6E (s : State) : Out := changeReg (s.costSecondary 0xB3) (bitRes 6) .e s

/-- `RES 6,H` (R240). -/
def execRes6H (s : State) : Out := changeReg (s.costSecondary 0xB4) (bitRes 6) .h s

/-- `RES 6,L` (R240). -/
def execRes6L (s : State) : Out := changeReg (s.costSecondary 0xB5) (bitRes 6) .l s

/-- `RES 6,(HL)` (R241). -/
def execRes6Mhl (s : State) : Out := changeMem (s.costSecondary 0xB6) (bitRes 6) s

/-- `RES 6,A` (R240). -/
def execRes6A (s : State) : Out := changeReg (s.costSecondary 0xB7) (bitRes 6) .a s

/-- `RES 7,B` (R240). -/
def execRes7B (s : State) : Out := changeReg (s.costSecondary 0xB8) (bitRes 7) .b s

/-- `RES 7,C` (R240). -/
def execRes7C (s : State) : Out := changeReg (s.costSecondary 0xB9) (bitRes 7) .c s

/-- `RES 7,D` (R240). -/
def execRes7D (s : State) : Out := changeReg (s.costSecondary 0xBA) (bitRes 7) .d s

/-- `RES 7,E` (R240). -/
def execRes7E (s : State) : Out := changeReg (s.costSecondary 0xBB) (bitRes 7) .e s

/-- `RES 7,H` (R240). -/
def execRes7H (s : State) : Out := changeReg (s.costSecondary 0xBC) (bitRes 7) .h s

/-- `RES 7,L` (R240). -/
def execRes7L (s : State) : Out := changeReg (s.costSecondary 0xBD) (bitRes 7) .l s

/-- `RES 7,(HL)` (R241). -/
def execRes7Mhl (s : State) : Out := changeMem (s.costSecondary 0xBE) (bitRes 7) s

/-- `RES 7,A` (R240). -/
def execRes7A (s : State) : Out := changeReg (s.costSecondary 0xBF) (bitRes 7) .a s

/-- `SET 0,B` (R238). -/
def execSet0B (s : State) : Out := changeReg (s.costSecondary 0xC0) (bitSet 0) .b s

/-- `SET 0,C` (R238). -/
def execSet0C (s : State) : Out := changeReg (s.costSecondary 0xC1) (bitSet 0) .c s

/-- `SET 0,D` (R238). -/
def execSet0D (s : State) : Out := changeReg (s.costSecondary 0xC2) (bitSet 0) .d s

/-- `SET 0,E` (R238). -/
def execSet0E (s : State) : Out := changeReg (s.costSecondary 0xC3) (bitSet 0) .e s

/-- `SET 0,H` (R238). -/
def execSet0H (s : State) : Out := changeReg (s.costSecondary 0xC4) (bitSet 0) .h s

/-- `SET 0,L` (R238). -/
def execSet0L (s : State) : Out := changeReg (s.costSecondary 0xC5) (bitSet 0) .l s

/-- `SET 0,(HL)` (R239). -/
def execSet0Mhl (s : State) : Out := changeMem (s.costSecondary 0xC6) (bitSet 0) s

/-- `SET 0,A` (R238). -/
def execSet0A (s : State) : Out := changeReg (s.costSecondary 0xC7) (bitSet 0) .a s

/-- `SET 1,B` (R238). -/
def execSet1B (s : State) : Out := changeReg (s.costSecondary 0xC8) (bitSet 1) .b s

/-- `SET 1,C` (R238). -/
def execSet1C (s : State) : Out := changeReg (s.costSecondary 0xC9) (bitSet 1) .c s

/-- `SET 1,D` (R238). -/
def execSet1D (s : State) : Out := changeReg (s.costSecondary 0xCA) (bitSet 1) .d s

/-- `SET 1,E` (R238). -/
def execSet1E (s : State) : Out := changeReg (s.costSecondary 0xCB) (bitSet 1) .e s

/-- `SET 1,H` (R238). -/
def execSet1H (s : State) : Out := changeReg (s.costSecondary 0xCC) (bitSet 1) .h s

/-- `SET 1,L` (R238). -/
def execSet1L (s : State) : Out := changeReg (s.costSecondary 0xCD) (bitSet 1) .l s

/-- `SET 1,(HL)` (R239). -/
def execSet1Mhl (s : State) : Out := changeMem (s.costSecondary 0xCE) (bitSet 1) s

/-- `SET 1,A` (R238). -/
def execSet1A (s : State) : Out := changeReg (s.costSecondary 0xCF) (bitSet 1) .a s

/-- `SET 2,B` (R238). -/
def execSet2B (s : State) : Out := changeReg (s.costSecondary 0xD0) (bitSet 2) .b s

/-- `SET 2,C` (R238). -/
def execSet2C (s : State) : Out := changeReg (s.costSecondary 0xD1) (bitSet 2) .c s

/-- `SET 2,D` (R238). -/
def execSet2D (s : State) : Out := changeReg (s.costSecondary 0xD2) (bitSet 2) .d s

/-- `SET 2,E` (R238). -/
def execSet2E (s : State) : Out := changeReg (s.costSecondary 0xD3) (bitSet 2) .e s

/-- `SET 2,H` (R238). -/
def execSet2H (s : State) : Out := changeReg (s.costSecondary 0xD4) (bitSet 2) .h s

/-- `SET 2,L` (R238). -/
def execSet2L (s : State) : Out := changeReg (s.costSecondary 0xD5) (bitSet 2) .l s

/-- `SET 2,(HL)` (R239). -/
def execSet2Mhl (s : State) : Out := changeMem (s.costSecondary 0xD6) (bitSet 2) s

/-- `SET 2,A` (R238). -/
def execSet2A (s : State) : Out := changeReg (s.costSecondary 0xD7) (bitSet 2) .a s

/-- `SET 3,B` (R238). -/
def execSet3B (s : State) : Out := changeReg (s.costSecondary 0xD8) (bitSet 3) .b s

/-- `SET 3,C` (R238). -/
def execSet3C (s : State) : Out := changeReg (s.costSecondary 0xD9) (bitSet 3) .c s

/-- `SET 3,D` (R238). -/
def execSet3D (s : State) : Out := changeReg (s.costSecondary 0xDA) (bitSet 3) .d s

/-- `SET 3,E` (R238). -/
def execSet3E (s : State) : Out := changeReg (s.costSecondary 0xDB) (bitSet 3) .e s

/-- `SET 3,H` (R238). -/
def execSet3H (s : State) : Out := changeReg (s.costSecondary 0xDC) (bitSet 3) .h s

/-- `SET 3,L` (R238). -/
def execSet3L (s : State) : Out := changeReg (s.costSecondary 0xDD) (bitSet 3) .l s

/-- `SET 3,(HL)` (R239). -/
def execSet3Mhl (s : State) : Out := changeMem (s.costSecondary 0xDE) (bitSet 3) s

/-- `SET 3,A` (R238). -/
def execSet3A (s : State) : Out := changeReg (s.costSecondary 0xDF) (bitSet 3) .a s

/-- `SET 4,B` (R238). -/
def execSet4B (s : State) : Out := changeReg (s.costSecondary 0xE0) (bitSet 4) .b s

/-- `SET 4,C` (R238). -/
def execSet4C (s : State) : Out := changeReg (s.costSecondary 0xE1) (bitSet 4) .c s

/-- `SET 4,D` (R238). -/
def execSet4D (s : State) : Out := changeReg (s.costSecondary 0xE2) (bitSet 4) .d s

/-- `SET 4,E` (R238). -/
def execSet4E (s : State) : Out := changeReg (s.costSecondary 0xE3) (bitSet 4) .e s

/-- `SET 4,H` (R238). -/
def execSet4H (s : State) : Out := changeReg (s.costSecondary 0xE4) (bitSet 4) .h s

/-- `SET 4,L` (R238). -/
def execSet4L (s : State) : Out := changeReg (s.costSecondary 0xE5) (bitSet 4) .l s

/-- `SET 4,(HL)` (R239). -/
def execSet4Mhl (s : State) : Out := changeMem (s.costSecondary 0xE6) (bitSet 4) s

/-- `SET 4,A` (R238). -/
def execSet4A (s : State) : Out := changeReg (s.costSecondary 0xE7) (bitSet 4) .a s

/-- `SET 5,B` (R238). -/
def execSet5B (s : State) : Out := changeReg (s.costSecondary 0xE8) (bitSet 5) .b s

/-- `SET 5,C` (R238). -/
def execSet5C (s : State) : Out := changeReg (s.costSecondary 0xE9) (bitSet 5) .c s

/-- `SET 5,D` (R238). -/
def execSet5D (s : State) : Out := changeReg (s.costSecondary 0xEA) (bitSet 5) .d s

/-- `SET 5,E` (R238). -/
def execSet5E (s : State) : Out := changeReg (s.costSecondary 0xEB) (bitSet 5) .e s

/-- `SET 5,H` (R238). -/
def execSet5H (s : State) : Out := changeReg (s.costSecondary 0xEC) (bitSet 5) .h s

/-- `SET 5,L` (R238). -/
def execSet5L (s : State) : Out := changeReg (s.costSecondary 0xED) (bitSet 5) .l s

/-- `SET 5,(HL)` (R239). -/
def execSet5Mhl (s : State) : Out := changeMem (s.costSecondary 0xEE) (bitSet 5) s

/-- `SET 5,A` (R238). -/
def execSet5A (s : State) : Out := changeReg (s.costSecondary 0xEF) (bitSet 5) .a s

/-- `SET 6,B` (R238). -/
def execSet6B (s : State) : Out := changeReg (s.costSecondary 0xF0) (bitSet 6) .b s

/-- `SET 6,C` (R238). -/
def execSet6C (s : State) : Out := changeReg (s.costSecondary 0xF1) (bitSet 6) .c s

/-- `SET 6,D` (R238). -/
def execSet6D (s : State) : Out := changeReg (s.costSecondary 0xF2) (bitSet 6) .d s

/-- `SET 6,E` (R238). -/
def execSet6E (s : State) : Out := changeReg (s.costSecondary 0xF3) (bitSet 6) .e s

/-- `SET 6,H` (R238). -/
def execSet6H (s : State) : Out := changeReg (s.costSecondary 0xF4) (bitSet 6) .h s

/-- `SET 6,L` (R238). -/
def execSet6L (s : State) : Out := changeReg (s.costSecondary 0xF5) (bitSet 6) .l s

/-- `SET 6,(HL)` (R239). -/
def execSet6Mhl (s : State) : Out := changeMem (s.costSecondary 0xF6) (bitSet 6) s

/-- `SET 6,A` (R238). -/
def execSet6A (s : State) : Out := changeReg (s.costSecondary 0xF7) (bitSet 6) .a s

/-- `SET 7,B` (R238). -/
def execSet7B (s : State) : Out := changeReg (s.costSecondary 0xF8) (bitSet 7) .b s

/-- `SET 7,C` (R238). -/
def execSet7C (s : State) : Out := changeReg (s.costSecondary 0xF9) (bitSet 7) .c s

/-- `SET 7,D` (R238). -/
def execSet7D (s : State) : Out := changeReg (s.costSecondary 0xFA) (bitSet 7) .d s

/-- `SET 7,E` (R238). -/
def execSet7E (s : State) : Out := changeReg (s.costSecondary 0xFB) (bitSet 7) .e s

/-- `SET 7,H` (R238). -/
def execSet7H (s : State) : Out := changeReg (s.costSecondary 0xFC) (bitSet 7) .h s

/-- `SET 7,L` (R238). -/
def execSet7L (s : State) : Out := changeReg (s.costSecondary 0xFD) (bitSet 7) .l s

/-- `SET 7,(HL)` (R239). -/
def execSet7Mhl (s : State) : Out := changeMem (s.costSecondary 0xFE) (bitSet 7) s

/-- `SET 7,A` (R238). -/
def execSet7A (s : State) : Out := changeReg (s.costSecondary 0xFF) (bitSet 7) .a s

end Sys2Proof.Machine
end

