-- ==== Sys2Proof/Machine/Control.lean ====
section
/-! DEFINITION. The meanings of the control transfer (46_control.md R243 to R257). `PC` is past the whole instruction. -/

namespace Sys2Proof.Machine

/-! ## Shared operations -/

/-- `JP cc,nn` (R246), `nn` fetched whether the jump is taken or not (R244). -/
def jumpCond (cost : Bool → Nat) (cc : Cond) (nn : Word) (s : State) : Out :=
  jumpIf (condHolds cc s.cpu.flags) cost nn s

/-- `pc <- PC + sext_16(e)`, `PC` being past the displacement (R248, R249). -/
def jumpRel (taken : Bool) (cost : Bool → Nat) (e : Byte) (s : State) : Out :=
  jumpIf taken cost (s.cpu.pc + sext16 e) s

/-- `CALL cc,nn` (R251): not taken pushes nothing. -/
def callCond (cost : Bool → Nat) (cc : Cond) (nn : Word) (s : State) : Out :=
  if condHolds cc s.cpu.flags then callTo (cost true) nn s else done (cost false) s

/-- `RET cc` (R253): not taken reads no memory. -/
def returnCond (cost : Bool → Nat) (cc : Cond) (s : State) : Out :=
  if condHolds cc s.cpu.flags then returnTo (cost true) s else done (cost false) s

/-! ## The instructions -/

/-- `JR e` (R248). -/
def execJrE (e : Byte) (s : State) : Out := jumpRel true (s.cost 0x18) e s

/-- `JR NZ,e` (R249). -/
def execJrNzE (e : Byte) (s : State) : Out := jumpRel (condHolds .nz s.cpu.flags) (s.cost 0x20) e s

/-- `JR Z,e` (R249). -/
def execJrZE (e : Byte) (s : State) : Out := jumpRel (condHolds .z s.cpu.flags) (s.cost 0x28) e s

/-- `JR NC,e` (R249). -/
def execJrNcE (e : Byte) (s : State) : Out := jumpRel (condHolds .nc s.cpu.flags) (s.cost 0x30) e s

/-- `JR C,e` (R249). -/
def execJrCE (e : Byte) (s : State) : Out := jumpRel (condHolds .c s.cpu.flags) (s.cost 0x38) e s

/-- `RET NZ` (R253). -/
def execRetNz (s : State) : Out := returnCond (s.cost 0xC0) .nz s

/-- `JP NZ,nn` (R246). -/
def execJpNzNn (nn : Word) (s : State) : Out := jumpCond (s.cost 0xC2) .nz nn s

/-- `JP nn` (R245). -/
def execJpNn (nn : Word) (s : State) : Out := done (s.cost 0xC3 true) (s.setPc nn)

/-- `CALL NZ,nn` (R251). -/
def execCallNzNn (nn : Word) (s : State) : Out := callCond (s.cost 0xC4) .nz nn s

/-- `RST 0x00` (R257). -/
def execRst00 (s : State) : Out := callTo (s.cost 0xC7 true) (Config.rstVector 0) s

/-- `RET Z` (R253). -/
def execRetZ (s : State) : Out := returnCond (s.cost 0xC8) .z s

/-- `RET` (R252). -/
def execRet (s : State) : Out := returnTo (s.cost 0xC9 true) s

/-- `JP Z,nn` (R246). -/
def execJpZNn (nn : Word) (s : State) : Out := jumpCond (s.cost 0xCA) .z nn s

/-- `CALL Z,nn` (R251). -/
def execCallZNn (nn : Word) (s : State) : Out := callCond (s.cost 0xCC) .z nn s

/-- `CALL nn` (R250). -/
def execCallNn (nn : Word) (s : State) : Out := callTo (s.cost 0xCD true) nn s

/-- `RST 0x08` (R257). -/
def execRst08 (s : State) : Out := callTo (s.cost 0xCF true) (Config.rstVector 1) s

/-- `RET NC` (R253). -/
def execRetNc (s : State) : Out := returnCond (s.cost 0xD0) .nc s

/-- `JP NC,nn` (R246). -/
def execJpNcNn (nn : Word) (s : State) : Out := jumpCond (s.cost 0xD2) .nc nn s

/-- `CALL NC,nn` (R251). -/
def execCallNcNn (nn : Word) (s : State) : Out := callCond (s.cost 0xD4) .nc nn s

/-- `RST 0x10` (R257). -/
def execRst10 (s : State) : Out := callTo (s.cost 0xD7 true) (Config.rstVector 2) s

/-- `RET C` (R253). -/
def execRetC (s : State) : Out := returnCond (s.cost 0xD8) .c s

/-- `RETI` (R254): `IME` changes after both reads. -/
def execReti (s : State) : Out := (returnFromInterrupt s).finish (s.cost 0xD9 true)

/-- `JP C,nn` (R246). -/
def execJpCNn (nn : Word) (s : State) : Out := jumpCond (s.cost 0xDA) .c nn s

/-- `CALL C,nn` (R251). -/
def execCallCNn (nn : Word) (s : State) : Out := callCond (s.cost 0xDC) .c nn s

/-- `RST 0x18` (R257). -/
def execRst18 (s : State) : Out := callTo (s.cost 0xDF true) (Config.rstVector 3) s

/-- `RST 0x20` (R257). -/
def execRst20 (s : State) : Out := callTo (s.cost 0xE7 true) (Config.rstVector 4) s

/-- `JP HL` (R247). -/
def execJpHl (s : State) : Out := done (s.cost 0xE9 true) (s.setPc s.hl)

/-- `RST 0x28` (R257). -/
def execRst28 (s : State) : Out := callTo (s.cost 0xEF true) (Config.rstVector 5) s

/-- `RST 0x30` (R257). -/
def execRst30 (s : State) : Out := callTo (s.cost 0xF7 true) (Config.rstVector 6) s

/-- `RST 0x38` (R257). -/
def execRst38 (s : State) : Out := callTo (s.cost 0xFF true) (Config.rstVector 7) s

end Sys2Proof.Machine
end

