-- ==== Sys2Proof/Machine/Load16.lean ====
section
/-! DEFINITION. The meanings of the 16-bit loads and the stack (41_load16_stack.md R165 to R172). `PC` is past the whole instruction. -/

namespace Sys2Proof.Machine

/-! ## Shared operations -/

/-- `rp[p] <- nn` (R166). -/
def loadPairImm (cost : Nat) (p : Pair) (nn : Word) (s : State) : Out := done cost (s.setPair p nn)

/-- `Push16(rr)` (R169). -/
def pushPair (cost : Nat) (p : StackPair) (s : State) : Out := pushWord cost (s.stackPair p) s

/-- `rr <- Pop16()` (R171). -/
def popPair (cost : Nat) (p : StackPair) (s : State) : Out := popWord cost (fun v s => s.setStackPair p v) s

/-! ## The instructions -/

/-- `LD BC,nn` (R166). -/
def execLdBcNn (nn : Word) (s : State) : Out := loadPairImm (s.cost 0x01 true) .bc nn s

/-- `LD (nn),SP` (R167). -/
def execLdMnnSp (nn : Word) (s : State) : Out := (memWrite16 nn s.cpu.sp s).finish (s.cost 0x08 true)

/-- `LD DE,nn` (R166). -/
def execLdDeNn (nn : Word) (s : State) : Out := loadPairImm (s.cost 0x11 true) .de nn s

/-- `LD HL,nn` (R166). -/
def execLdHlNn (nn : Word) (s : State) : Out := loadPairImm (s.cost 0x21 true) .hl nn s

/-- `LD SP,nn` (R166). -/
def execLdSpNn (nn : Word) (s : State) : Out := loadPairImm (s.cost 0x31 true) .sp nn s

/-- `POP BC` (R171). -/
def execPopBc (s : State) : Out := popPair (s.cost 0xC1 true) .bc s

/-- `PUSH BC` (R169). -/
def execPushBc (s : State) : Out := pushPair (s.cost 0xC5 true) .bc s

/-- `POP DE` (R171). -/
def execPopDe (s : State) : Out := popPair (s.cost 0xD1 true) .de s

/-- `PUSH DE` (R169). -/
def execPushDe (s : State) : Out := pushPair (s.cost 0xD5 true) .de s

/-- `POP HL` (R171). -/
def execPopHl (s : State) : Out := popPair (s.cost 0xE1 true) .hl s

/-- `PUSH HL` (R169). -/
def execPushHl (s : State) : Out := pushPair (s.cost 0xE5 true) .hl s

/-- `POP AF` (R172). -/
def execPopAf (s : State) : Out := popWord (s.cost 0xF1 true) (fun v s => s.setAf v) s

/-- `PUSH AF` (R170). -/
def execPushAf (s : State) : Out := pushWord (s.cost 0xF5 true) s.af s

/-- `LD SP,HL` (R168). -/
def execLdSpHl (s : State) : Out := done (s.cost 0xF9 true) (s.setSp s.hl)

end Sys2Proof.Machine
end

