-- ==== Sys2Proof/Machine/Load8.lean ====
section
/-! DEFINITION. The meanings of the 8-bit loads (40_load8.md R140 to R159). `PC` is past the whole instruction. -/

namespace Sys2Proof.Machine

/-! ## Shared operations -/

/-- `r8[y] <- r8[z]` (R141). -/
def loadRegReg (cost : Nat) (dst src : Reg8) (s : State) : Out := done cost (s.setReg dst (s.reg src))

/-- `r8[y] <- n` (R142). -/
def loadRegImm (cost : Nat) (dst : Reg8) (n : Byte) (s : State) : Out := done cost (s.setReg dst n)

/-- `r8[y] <- MemRead(a, 1)` (R143, R146, R147, R150, R152, R154). -/
def loadRegAt (cost : Nat) (dst : Reg8) (a : Word) (s : State) : Out := withByte cost a (fun v s => s.setReg dst v) s

/-- `MemWrite(a, 1, v)` (R144, R145, R148, R149, R151, R153, R155). -/
def storeAt (cost : Nat) (a : Word) (v : Byte) (s : State) : Out := storeByte cost a v id s

/-- `A <- MemRead(HL, 1)`, then `HL` moved by `d` (R156, R157). -/
def loadAHlStep (cost : Nat) (d : Word) (s : State) : Out :=
  withByte cost s.hl (fun v s => (s.setReg .a v).setStackPair .hl (s.hl + d)) s

/-- `MemWrite(HL, 1, A)`, then `HL` moved by `d` (R158, R159). -/
def storeAHlStep (cost : Nat) (d : Word) (s : State) : Out :=
  storeByte cost s.hl (s.reg .a) (fun s => s.setStackPair .hl (s.hl + d)) s

/-! ## The instructions -/

/-- `LD (BC),A` (R148). -/
def execLdMbcA (s : State) : Out := storeAt (s.cost 0x02 true) (s.stackPair .bc) (s.reg .a) s

/-- `LD B,n` (R142). -/
def execLdBN (n : Byte) (s : State) : Out := loadRegImm (s.cost 0x06 true) .b n s

/-- `LD A,(BC)` (R146). -/
def execLdAMbc (s : State) : Out := loadRegAt (s.cost 0x0A true) .a (s.stackPair .bc) s

/-- `LD C,n` (R142). -/
def execLdCN (n : Byte) (s : State) : Out := loadRegImm (s.cost 0x0E true) .c n s

/-- `LD (DE),A` (R149). -/
def execLdMdeA (s : State) : Out := storeAt (s.cost 0x12 true) (s.stackPair .de) (s.reg .a) s

/-- `LD D,n` (R142). -/
def execLdDN (n : Byte) (s : State) : Out := loadRegImm (s.cost 0x16 true) .d n s

/-- `LD A,(DE)` (R147). -/
def execLdAMde (s : State) : Out := loadRegAt (s.cost 0x1A true) .a (s.stackPair .de) s

/-- `LD E,n` (R142). -/
def execLdEN (n : Byte) (s : State) : Out := loadRegImm (s.cost 0x1E true) .e n s

/-- `LD (HL+),A` (R158). -/
def execLdMhliA (s : State) : Out := storeAHlStep (s.cost 0x22 true) 1 s

/-- `LD H,n` (R142). -/
def execLdHN (n : Byte) (s : State) : Out := loadRegImm (s.cost 0x26 true) .h n s

/-- `LD A,(HL+)` (R156). -/
def execLdAMhli (s : State) : Out := loadAHlStep (s.cost 0x2A true) 1 s

/-- `LD L,n` (R142). -/
def execLdLN (n : Byte) (s : State) : Out := loadRegImm (s.cost 0x2E true) .l n s

/-- `LD (HL-),A` (R159). -/
def execLdMhldA (s : State) : Out := storeAHlStep (s.cost 0x32 true) (-1) s

/-- `LD (HL),n` (R145). -/
def execLdMhlN (n : Byte) (s : State) : Out := storeAt (s.cost 0x36 true) s.hl n s

/-- `LD A,(HL-)` (R157). -/
def execLdAMhld (s : State) : Out := loadAHlStep (s.cost 0x3A true) (-1) s

/-- `LD A,n` (R142). -/
def execLdAN (n : Byte) (s : State) : Out := loadRegImm (s.cost 0x3E true) .a n s

/-- `LD B,B` (R141). -/
def execLdBB (s : State) : Out := loadRegReg (s.cost 0x40 true) .b .b s

/-- `LD B,C` (R141). -/
def execLdBC (s : State) : Out := loadRegReg (s.cost 0x41 true) .b .c s

/-- `LD B,D` (R141). -/
def execLdBD (s : State) : Out := loadRegReg (s.cost 0x42 true) .b .d s

/-- `LD B,E` (R141). -/
def execLdBE (s : State) : Out := loadRegReg (s.cost 0x43 true) .b .e s

/-- `LD B,H` (R141). -/
def execLdBH (s : State) : Out := loadRegReg (s.cost 0x44 true) .b .h s

/-- `LD B,L` (R141). -/
def execLdBL (s : State) : Out := loadRegReg (s.cost 0x45 true) .b .l s

/-- `LD B,(HL)` (R143). -/
def execLdBMhl (s : State) : Out := loadRegAt (s.cost 0x46 true) .b s.hl s

/-- `LD B,A` (R141). -/
def execLdBA (s : State) : Out := loadRegReg (s.cost 0x47 true) .b .a s

/-- `LD C,B` (R141). -/
def execLdCB (s : State) : Out := loadRegReg (s.cost 0x48 true) .c .b s

/-- `LD C,C` (R141). -/
def execLdCC (s : State) : Out := loadRegReg (s.cost 0x49 true) .c .c s

/-- `LD C,D` (R141). -/
def execLdCD (s : State) : Out := loadRegReg (s.cost 0x4A true) .c .d s

/-- `LD C,E` (R141). -/
def execLdCE (s : State) : Out := loadRegReg (s.cost 0x4B true) .c .e s

/-- `LD C,H` (R141). -/
def execLdCH (s : State) : Out := loadRegReg (s.cost 0x4C true) .c .h s

/-- `LD C,L` (R141). -/
def execLdCL (s : State) : Out := loadRegReg (s.cost 0x4D true) .c .l s

/-- `LD C,(HL)` (R143). -/
def execLdCMhl (s : State) : Out := loadRegAt (s.cost 0x4E true) .c s.hl s

/-- `LD C,A` (R141). -/
def execLdCA (s : State) : Out := loadRegReg (s.cost 0x4F true) .c .a s

/-- `LD D,B` (R141). -/
def execLdDB (s : State) : Out := loadRegReg (s.cost 0x50 true) .d .b s

/-- `LD D,C` (R141). -/
def execLdDC (s : State) : Out := loadRegReg (s.cost 0x51 true) .d .c s

/-- `LD D,D` (R141). -/
def execLdDD (s : State) : Out := loadRegReg (s.cost 0x52 true) .d .d s

/-- `LD D,E` (R141). -/
def execLdDE (s : State) : Out := loadRegReg (s.cost 0x53 true) .d .e s

/-- `LD D,H` (R141). -/
def execLdDH (s : State) : Out := loadRegReg (s.cost 0x54 true) .d .h s

/-- `LD D,L` (R141). -/
def execLdDL (s : State) : Out := loadRegReg (s.cost 0x55 true) .d .l s

/-- `LD D,(HL)` (R143). -/
def execLdDMhl (s : State) : Out := loadRegAt (s.cost 0x56 true) .d s.hl s

/-- `LD D,A` (R141). -/
def execLdDA (s : State) : Out := loadRegReg (s.cost 0x57 true) .d .a s

/-- `LD E,B` (R141). -/
def execLdEB (s : State) : Out := loadRegReg (s.cost 0x58 true) .e .b s

/-- `LD E,C` (R141). -/
def execLdEC (s : State) : Out := loadRegReg (s.cost 0x59 true) .e .c s

/-- `LD E,D` (R141). -/
def execLdED (s : State) : Out := loadRegReg (s.cost 0x5A true) .e .d s

/-- `LD E,E` (R141). -/
def execLdEE (s : State) : Out := loadRegReg (s.cost 0x5B true) .e .e s

/-- `LD E,H` (R141). -/
def execLdEH (s : State) : Out := loadRegReg (s.cost 0x5C true) .e .h s

/-- `LD E,L` (R141). -/
def execLdEL (s : State) : Out := loadRegReg (s.cost 0x5D true) .e .l s

/-- `LD E,(HL)` (R143). -/
def execLdEMhl (s : State) : Out := loadRegAt (s.cost 0x5E true) .e s.hl s

/-- `LD E,A` (R141). -/
def execLdEA (s : State) : Out := loadRegReg (s.cost 0x5F true) .e .a s

/-- `LD H,B` (R141). -/
def execLdHB (s : State) : Out := loadRegReg (s.cost 0x60 true) .h .b s

/-- `LD H,C` (R141). -/
def execLdHC (s : State) : Out := loadRegReg (s.cost 0x61 true) .h .c s

/-- `LD H,D` (R141). -/
def execLdHD (s : State) : Out := loadRegReg (s.cost 0x62 true) .h .d s

/-- `LD H,E` (R141). -/
def execLdHE (s : State) : Out := loadRegReg (s.cost 0x63 true) .h .e s

/-- `LD H,H` (R141). -/
def execLdHH (s : State) : Out := loadRegReg (s.cost 0x64 true) .h .h s

/-- `LD H,L` (R141). -/
def execLdHL (s : State) : Out := loadRegReg (s.cost 0x65 true) .h .l s

/-- `LD H,(HL)` (R143). -/
def execLdHMhl (s : State) : Out := loadRegAt (s.cost 0x66 true) .h s.hl s

/-- `LD H,A` (R141). -/
def execLdHA (s : State) : Out := loadRegReg (s.cost 0x67 true) .h .a s

/-- `LD L,B` (R141). -/
def execLdLB (s : State) : Out := loadRegReg (s.cost 0x68 true) .l .b s

/-- `LD L,C` (R141). -/
def execLdLC (s : State) : Out := loadRegReg (s.cost 0x69 true) .l .c s

/-- `LD L,D` (R141). -/
def execLdLD (s : State) : Out := loadRegReg (s.cost 0x6A true) .l .d s

/-- `LD L,E` (R141). -/
def execLdLE (s : State) : Out := loadRegReg (s.cost 0x6B true) .l .e s

/-- `LD L,H` (R141). -/
def execLdLH (s : State) : Out := loadRegReg (s.cost 0x6C true) .l .h s

/-- `LD L,L` (R141). -/
def execLdLL (s : State) : Out := loadRegReg (s.cost 0x6D true) .l .l s

/-- `LD L,(HL)` (R143). -/
def execLdLMhl (s : State) : Out := loadRegAt (s.cost 0x6E true) .l s.hl s

/-- `LD L,A` (R141). -/
def execLdLA (s : State) : Out := loadRegReg (s.cost 0x6F true) .l .a s

/-- `LD (HL),B` (R144). -/
def execLdMhlB (s : State) : Out := storeAt (s.cost 0x70 true) s.hl (s.reg .b) s

/-- `LD (HL),C` (R144). -/
def execLdMhlC (s : State) : Out := storeAt (s.cost 0x71 true) s.hl (s.reg .c) s

/-- `LD (HL),D` (R144). -/
def execLdMhlD (s : State) : Out := storeAt (s.cost 0x72 true) s.hl (s.reg .d) s

/-- `LD (HL),E` (R144). -/
def execLdMhlE (s : State) : Out := storeAt (s.cost 0x73 true) s.hl (s.reg .e) s

/-- `LD (HL),H` (R144). -/
def execLdMhlH (s : State) : Out := storeAt (s.cost 0x74 true) s.hl (s.reg .h) s

/-- `LD (HL),L` (R144). -/
def execLdMhlL (s : State) : Out := storeAt (s.cost 0x75 true) s.hl (s.reg .l) s

/-- `LD (HL),A` (R144). -/
def execLdMhlA (s : State) : Out := storeAt (s.cost 0x77 true) s.hl (s.reg .a) s

/-- `LD A,B` (R141). -/
def execLdAB (s : State) : Out := loadRegReg (s.cost 0x78 true) .a .b s

/-- `LD A,C` (R141). -/
def execLdAC (s : State) : Out := loadRegReg (s.cost 0x79 true) .a .c s

/-- `LD A,D` (R141). -/
def execLdAD (s : State) : Out := loadRegReg (s.cost 0x7A true) .a .d s

/-- `LD A,E` (R141). -/
def execLdAE (s : State) : Out := loadRegReg (s.cost 0x7B true) .a .e s

/-- `LD A,H` (R141). -/
def execLdAH (s : State) : Out := loadRegReg (s.cost 0x7C true) .a .h s

/-- `LD A,L` (R141). -/
def execLdAL (s : State) : Out := loadRegReg (s.cost 0x7D true) .a .l s

/-- `LD A,(HL)` (R143). -/
def execLdAMhl (s : State) : Out := loadRegAt (s.cost 0x7E true) .a s.hl s

/-- `LD A,A` (R141). -/
def execLdAA (s : State) : Out := loadRegReg (s.cost 0x7F true) .a .a s

/-- `LDH (n),A` (R155). -/
def execLdhMnA (n : Byte) (s : State) : Out := storeAt (s.cost 0xE0 true) (highPage n) (s.reg .a) s

/-- `LDH (C),A` (R153). -/
def execLdhMcA (s : State) : Out := storeAt (s.cost 0xE2 true) (highPage (s.reg .c)) (s.reg .a) s

/-- `LD (nn),A` (R151). -/
def execLdMnnA (nn : Word) (s : State) : Out := storeAt (s.cost 0xEA true) nn (s.reg .a) s

/-- `LDH A,(n)` (R154). -/
def execLdhAMn (n : Byte) (s : State) : Out := loadRegAt (s.cost 0xF0 true) .a (highPage n) s

/-- `LDH A,(C)` (R152). -/
def execLdhAMc (s : State) : Out := loadRegAt (s.cost 0xF2 true) .a (highPage (s.reg .c)) s

/-- `LD A,(nn)` (R150). -/
def execLdAMnn (nn : Word) (s : State) : Out := loadRegAt (s.cost 0xFA true) .a nn s

end Sys2Proof.Machine
end

