-- ==== Sys2Proof/Machine/Rotate.lean ====
section
/-! DEFINITION. The meanings of the rotates, shifts and swap (44_rotate_shift.md R213 to R225). `PC` is past the whole instruction. -/

namespace Sys2Proof.Machine

/-! ## Shared operations -/

/-- A rotate, shift or swap of a register (R213). -/
def rotReg (cost : Nat) (op : RotOp) (r : Reg8) (s : State) : Out := modifyReg cost r (rot op) s

/-- A rotate, shift or swap of the byte at `HL` (R213). -/
def rotMem (cost : Nat) (op : RotOp) (s : State) : Out := modifyHl cost (rot op) s

/-- A compact rotate of `A` (R214 to R217). -/
def rotAcc (cost : Nat) (op : RotOp) (s : State) : Out := modifyReg cost .a (rotA op) s

/-! ## The instructions -/

/-- `RLCA` (R214). -/
def execRlca (s : State) : Out := rotAcc (s.cost 0x07 true) .rlc s

/-- `RRCA` (R215). -/
def execRrca (s : State) : Out := rotAcc (s.cost 0x0F true) .rrc s

/-- `RLA` (R216). -/
def execRla (s : State) : Out := rotAcc (s.cost 0x17 true) .rl s

/-- `RRA` (R217). -/
def execRra (s : State) : Out := rotAcc (s.cost 0x1F true) .rr s

/-- `RLC B` (R218). -/
def execRlcB (s : State) : Out := rotReg (s.costSecondary 0x00) .rlc .b s

/-- `RLC C` (R218). -/
def execRlcC (s : State) : Out := rotReg (s.costSecondary 0x01) .rlc .c s

/-- `RLC D` (R218). -/
def execRlcD (s : State) : Out := rotReg (s.costSecondary 0x02) .rlc .d s

/-- `RLC E` (R218). -/
def execRlcE (s : State) : Out := rotReg (s.costSecondary 0x03) .rlc .e s

/-- `RLC H` (R218). -/
def execRlcH (s : State) : Out := rotReg (s.costSecondary 0x04) .rlc .h s

/-- `RLC L` (R218). -/
def execRlcL (s : State) : Out := rotReg (s.costSecondary 0x05) .rlc .l s

/-- `RLC (HL)` (R218). -/
def execRlcMhl (s : State) : Out := rotMem (s.costSecondary 0x06) .rlc s

/-- `RLC A` (R218). -/
def execRlcA (s : State) : Out := rotReg (s.costSecondary 0x07) .rlc .a s

/-- `RRC B` (R219). -/
def execRrcB (s : State) : Out := rotReg (s.costSecondary 0x08) .rrc .b s

/-- `RRC C` (R219). -/
def execRrcC (s : State) : Out := rotReg (s.costSecondary 0x09) .rrc .c s

/-- `RRC D` (R219). -/
def execRrcD (s : State) : Out := rotReg (s.costSecondary 0x0A) .rrc .d s

/-- `RRC E` (R219). -/
def execRrcE (s : State) : Out := rotReg (s.costSecondary 0x0B) .rrc .e s

/-- `RRC H` (R219). -/
def execRrcH (s : State) : Out := rotReg (s.costSecondary 0x0C) .rrc .h s

/-- `RRC L` (R219). -/
def execRrcL (s : State) : Out := rotReg (s.costSecondary 0x0D) .rrc .l s

/-- `RRC (HL)` (R219). -/
def execRrcMhl (s : State) : Out := rotMem (s.costSecondary 0x0E) .rrc s

/-- `RRC A` (R219). -/
def execRrcA (s : State) : Out := rotReg (s.costSecondary 0x0F) .rrc .a s

/-- `RL B` (R220). -/
def execRlB (s : State) : Out := rotReg (s.costSecondary 0x10) .rl .b s

/-- `RL C` (R220). -/
def execRlC (s : State) : Out := rotReg (s.costSecondary 0x11) .rl .c s

/-- `RL D` (R220). -/
def execRlD (s : State) : Out := rotReg (s.costSecondary 0x12) .rl .d s

/-- `RL E` (R220). -/
def execRlE (s : State) : Out := rotReg (s.costSecondary 0x13) .rl .e s

/-- `RL H` (R220). -/
def execRlH (s : State) : Out := rotReg (s.costSecondary 0x14) .rl .h s

/-- `RL L` (R220). -/
def execRlL (s : State) : Out := rotReg (s.costSecondary 0x15) .rl .l s

/-- `RL (HL)` (R220). -/
def execRlMhl (s : State) : Out := rotMem (s.costSecondary 0x16) .rl s

/-- `RL A` (R220). -/
def execRlA (s : State) : Out := rotReg (s.costSecondary 0x17) .rl .a s

/-- `RR B` (R221). -/
def execRrB (s : State) : Out := rotReg (s.costSecondary 0x18) .rr .b s

/-- `RR C` (R221). -/
def execRrC (s : State) : Out := rotReg (s.costSecondary 0x19) .rr .c s

/-- `RR D` (R221). -/
def execRrD (s : State) : Out := rotReg (s.costSecondary 0x1A) .rr .d s

/-- `RR E` (R221). -/
def execRrE (s : State) : Out := rotReg (s.costSecondary 0x1B) .rr .e s

/-- `RR H` (R221). -/
def execRrH (s : State) : Out := rotReg (s.costSecondary 0x1C) .rr .h s

/-- `RR L` (R221). -/
def execRrL (s : State) : Out := rotReg (s.costSecondary 0x1D) .rr .l s

/-- `RR (HL)` (R221). -/
def execRrMhl (s : State) : Out := rotMem (s.costSecondary 0x1E) .rr s

/-- `RR A` (R221). -/
def execRrA (s : State) : Out := rotReg (s.costSecondary 0x1F) .rr .a s

/-- `SLA B` (R222). -/
def execSlaB (s : State) : Out := rotReg (s.costSecondary 0x20) .sla .b s

/-- `SLA C` (R222). -/
def execSlaC (s : State) : Out := rotReg (s.costSecondary 0x21) .sla .c s

/-- `SLA D` (R222). -/
def execSlaD (s : State) : Out := rotReg (s.costSecondary 0x22) .sla .d s

/-- `SLA E` (R222). -/
def execSlaE (s : State) : Out := rotReg (s.costSecondary 0x23) .sla .e s

/-- `SLA H` (R222). -/
def execSlaH (s : State) : Out := rotReg (s.costSecondary 0x24) .sla .h s

/-- `SLA L` (R222). -/
def execSlaL (s : State) : Out := rotReg (s.costSecondary 0x25) .sla .l s

/-- `SLA (HL)` (R222). -/
def execSlaMhl (s : State) : Out := rotMem (s.costSecondary 0x26) .sla s

/-- `SLA A` (R222). -/
def execSlaA (s : State) : Out := rotReg (s.costSecondary 0x27) .sla .a s

/-- `SRA B` (R223). -/
def execSraB (s : State) : Out := rotReg (s.costSecondary 0x28) .sra .b s

/-- `SRA C` (R223). -/
def execSraC (s : State) : Out := rotReg (s.costSecondary 0x29) .sra .c s

/-- `SRA D` (R223). -/
def execSraD (s : State) : Out := rotReg (s.costSecondary 0x2A) .sra .d s

/-- `SRA E` (R223). -/
def execSraE (s : State) : Out := rotReg (s.costSecondary 0x2B) .sra .e s

/-- `SRA H` (R223). -/
def execSraH (s : State) : Out := rotReg (s.costSecondary 0x2C) .sra .h s

/-- `SRA L` (R223). -/
def execSraL (s : State) : Out := rotReg (s.costSecondary 0x2D) .sra .l s

/-- `SRA (HL)` (R223). -/
def execSraMhl (s : State) : Out := rotMem (s.costSecondary 0x2E) .sra s

/-- `SRA A` (R223). -/
def execSraA (s : State) : Out := rotReg (s.costSecondary 0x2F) .sra .a s

/-- `SWAP B` (R224). -/
def execSwapB (s : State) : Out := rotReg (s.costSecondary 0x30) .swap .b s

/-- `SWAP C` (R224). -/
def execSwapC (s : State) : Out := rotReg (s.costSecondary 0x31) .swap .c s

/-- `SWAP D` (R224). -/
def execSwapD (s : State) : Out := rotReg (s.costSecondary 0x32) .swap .d s

/-- `SWAP E` (R224). -/
def execSwapE (s : State) : Out := rotReg (s.costSecondary 0x33) .swap .e s

/-- `SWAP H` (R224). -/
def execSwapH (s : State) : Out := rotReg (s.costSecondary 0x34) .swap .h s

/-- `SWAP L` (R224). -/
def execSwapL (s : State) : Out := rotReg (s.costSecondary 0x35) .swap .l s

/-- `SWAP (HL)` (R224). -/
def execSwapMhl (s : State) : Out := rotMem (s.costSecondary 0x36) .swap s

/-- `SWAP A` (R224). -/
def execSwapA (s : State) : Out := rotReg (s.costSecondary 0x37) .swap .a s

/-- `SRL B` (R225). -/
def execSrlB (s : State) : Out := rotReg (s.costSecondary 0x38) .srl .b s

/-- `SRL C` (R225). -/
def execSrlC (s : State) : Out := rotReg (s.costSecondary 0x39) .srl .c s

/-- `SRL D` (R225). -/
def execSrlD (s : State) : Out := rotReg (s.costSecondary 0x3A) .srl .d s

/-- `SRL E` (R225). -/
def execSrlE (s : State) : Out := rotReg (s.costSecondary 0x3B) .srl .e s

/-- `SRL H` (R225). -/
def execSrlH (s : State) : Out := rotReg (s.costSecondary 0x3C) .srl .h s

/-- `SRL L` (R225). -/
def execSrlL (s : State) : Out := rotReg (s.costSecondary 0x3D) .srl .l s

/-- `SRL (HL)` (R225). -/
def execSrlMhl (s : State) : Out := rotMem (s.costSecondary 0x3E) .srl s

/-- `SRL A` (R225). -/
def execSrlA (s : State) : Out := rotReg (s.costSecondary 0x3F) .srl .a s

end Sys2Proof.Machine
end

