-- ==== Sys2Proof/Machine/System.lean ====
section
/-! DEFINITION. The meanings of the system instructions and the illegal opcode bytes (47_system.md R259 to R268). `PC` is past the whole instruction. -/

namespace Sys2Proof.Machine

/-! ## The instructions -/

/-- `NOP` (R259). -/
def execNop (s : State) : Out := done (s.cost 0x00 true) s

/-- `STOP` (R262): the byte fetched is not examined. -/
def execStop (_n : Byte) (s : State) : Out := done (s.cost 0x10 true) (s.setStopped true)

/-- `HALT` (R261). -/
def execHalt (s : State) : Out := done (s.cost 0x76 true) (s.haltWith s.bus.cfg.haltWithIme0Halts)

/-- An illegal opcode byte (R268): the fatal error is recorded, no tick is added, nothing else changes. -/
def execIllegal (op : Byte) (s : State) : Out := .next (s.raise (.unknownOpcode op))

/-- `DI` (R263). -/
def execDi (s : State) : Out := done (s.cost 0xF3 true) (s.setIme false)

/-- `EI` (R264). -/
def execEi (s : State) : Out := done (s.cost 0xFB true) (s.setIme true)

end Sys2Proof.Machine
end

