-- ==== Sys2Proof/Machine/Place.lean ====
section
/-! DEFINITION. Placing an instruction's bytes where the next Step fetches them: what a loader outside the machine
does (log 2, log 23). No instruction and no step uses this file but `State.withFetchWord`. -/

namespace Sys2Proof.Machine

/-- Whether three bytes from `a` up lie where code can be placed: cartridge ROM that the image holds, video RAM,
work RAM, high RAM. -/
def Bus.placeable (b : Bus) (a : Word) : Bool :=
  let n := a.toNat
  (decide (n + 2 < 0xA000) || decide (0xC000 ≤ n ∧ n + 2 < 0xFE00) || decide (0xFF80 ≤ n ∧ n + 2 < 0xFFFF)) &&
    b.readable a && b.readable (a + 1) && b.readable (a + 2)

/-- A byte placed: in the image itself where the address is ROM, which no write can reach, else by a write. -/
def Bus.place (b : Bus) (a : Word) (v : Byte) : Bus :=
  if a.toNat < 0x8000 then
    match b.cart.target a.toNat with
    | .rom o => { b with cart := { b.cart with rom := b.cart.rom.write o v } }
    | _ => b
  else
    match b.write a v with
    | .ok _ b => b
    | .fatal _ b => b

/-- Bytes placed from `a` up. -/
def Bus.placeAll (b : Bus) (a : Word) (bytes : List Byte) : Bus :=
  match bytes with
  | [] => b
  | v :: rest => Bus.placeAll (b.place a v) (a + 1) rest

/-- The state whose next Step fetches: not stuck, not waiting, with no interrupt to take, `PC` where code can be
placed (else at the start of work RAM); nothing else is changed. -/
def State.ready (s : State) : State :=
  let pend := if s.cpu.ime then s.bus.pending else 0
  { s with
    cpu := { s.cpu with
      pc := if s.bus.placeable s.cpu.pc then s.cpu.pc else 0xC000
      fault := none, halted := false, stopped := false, skipInc := false }
    bus := { s.bus with io := { s.bus.io with ifl := s.bus.io.ifl &&& ~~~pend } } }

end Sys2Proof.Machine
end

