-- ==== Sys2Proof/Machine/Step.lean ====
section
/-! DEFINITION. One Step (60_exceptions.md R290), and the host's placing of an instruction. -/

namespace Sys2Proof.Machine

/-- `Step()` of R290: nothing after a fatal error (R272); the wake rule; an interrupt; an idle period; else one
instruction, whose bytes are fetched first. The driver does not act in it (log 24). -/
def step (s : State) : Host.Outcome State Fault Refusal :=
  if s.cpu.fault.isSome then .next s
  else
    match s.wake.dispatched with
    | some i => takeInterrupt i s.wake
    | none =>
      if s.wake.cpu.halted || s.wake.cpu.stopped then .next (s.wake.tick s.bus.cfg.idleTicks)
      else
        match fetchInstr s.wake with
        | .ok i t => exec i t
        | .fatal t => .next t

/-- The state with an instruction stored where the next Step fetches it (log 23); the bits above `nbits` are zero. -/
def State.withFetchWord (s : State) (nbits w : Nat) : State :=
  let t := s.ready
  t.setBus (t.bus.placeAll t.cpu.pc (tableBytes nbits (w % 2 ^ nbits)))

end Sys2Proof.Machine
end

