-- ==== Sys2Proof/Machine/Driver.lean ====
section
/-! DEFINITION. The Frame/Timing Driver (60_exceptions.md R310 to R321, R330, R348): the scanline phases, the divider
and timer, the frame and what it hands to the sinks. -/

namespace Sys2Proof.Machine

/-! ## Divider and timer -/

/-- One increment of `TIMA` (R321): at 0xFF it reloads from `TMA` and requests Timer-Overflow. -/
def Bus.countTima (b : Bus) : Bus :=
  if b.io.tima = 0xFF then { b with io := { b.io with tima := b.io.tma } }.request 2
  else { b with io := { b.io with tima := b.io.tima + 1 } }

/-- `n` increments of `TIMA`. -/
def Bus.countTimaBy (b : Bus) (n : Nat) : Bus :=
  match n with
  | 0 => b
  | n + 1 => b.countTima.countTimaBy n

/-- The period `P` that `TAC[1:0]` selects (R321). -/
def timaPeriod (tac : BitVec 3) : Nat :=
  match (tac.extractLsb' 0 2).toNat with
  | 0 => 1024
  | 1 => 16
  | 2 => 64
  | _ => 256

/-- The `DIV` half of `TimerAdvance(n)` (R320). -/
def Bus.advanceDiv (b : Bus) (n : Nat) : Bus :=
  let acc := b.drv.divAcc + n
  { b with io := { b.io with div := b.io.div + BitVec.ofNat 8 (acc / 256) }
           drv := { b.drv with divAcc := acc % 256 } }

/-- The `TIMA` half of `TimerAdvance(n)` (R321): with `TAC[2] = 0` nothing moves. -/
def Bus.advanceTima (b : Bus) (n : Nat) : Bus :=
  if b.io.tac.getLsbD 2 then
    let acc := b.drv.timaAcc + n
    let p := timaPeriod b.io.tac
    { b with drv := { b.drv with timaAcc := acc % p } }.countTimaBy (acc / p)
  else b

/-- `TimerAdvance(n)` (R320, R321). -/
def Bus.timerAdvance (b : Bus) (n : Nat) : Bus := (b.advanceDiv n).advanceTima n

/-! ## Phases -/

/-- The state after one `Step()`; a step always answers a next state (log 6). -/
def State.stepped (s : State) : State :=
  match step s with
  | .next t => t
  | .fault _ => s
  | .refused _ => s

/-- Applies a part of the frame, unless a fatal error has ended the run (R272, R318). -/
def State.unlessFault (s : State) (f : State → State) : State := if s.cpu.fault.isSome then s else f s

/-- A change of the bus alone. -/
def State.onBus (s : State) (f : Bus → Bus) : State := { s with bus := f s.bus }

/-- Steps while no fatal error is recorded and fewer than `target` ticks have passed since `start` (R312). `fuel`
bounds the number of Steps; `target` of them are enough, since each adds at least one tick (R371; log 29). -/
def State.stepUntil (fuel start target : Nat) (s : State) : State :=
  match fuel with
  | 0 => s
  | fuel + 1 =>
    if s.cpu.fault.isNone && decide (s.cpu.ticks - start < target) then State.stepUntil fuel start target s.stepped
    else s

/-- `RunPhase(budget)` (R312): what a phase overran is taken from the next one's budget. -/
def State.runPhase (budget : Nat) (s : State) : State :=
  let target : Int := budget - s.bus.drv.carry
  let start := s.cpu.ticks
  (s.stepUntil target.toNat start target.toNat).unlessFault fun t =>
    t.onBus fun b => { b with drv := { b.drv with carry := ((t.cpu.ticks - start : Nat) - target).toNat } }

/-- `STAT[1:0] <- v`. -/
def Bus.setMode (b : Bus) (v : BitVec 2) : Bus := { b with io := { b.io with mode := v } }

/-- `LY <- y`. -/
def Bus.setLy (b : Bus) (y : Nat) : Bus := { b with io := { b.io with ly := BitVec.ofNat 8 y } }

/-- The start of an OAM-search phase (R313): the line-match request is gated by `STAT[6]`. -/
def Bus.startOamSearch (b : Bus) (y : Nat) : Bus :=
  let b := (b.setLy y).setMode 2
  if b.io.statEnable.getLsbD 3 && decide (b.io.ly = b.io.lyc) then b.request 1 else b

/-- The start of an H-Blank phase (R315): the request is gated by `STAT[3]`. -/
def Bus.startHBlank (b : Bus) : Bus :=
  let b := b.setMode 0
  if b.io.statEnable.getLsbD 0 then b.request 1 else b

/-- The start of a V-Blank line (R316): the mode and the request on line 144 alone. -/
def Bus.startVBlankLine (b : Bus) (y : Nat) : Bus :=
  let b := b.setLy y
  if y = Config.visibleLines then (b.setMode 1).request 0 else b

/-- The bookkeeping of a visible line (R315): the line is rendered, then the timers advance. -/
def Bus.endVisibleLine (b : Bus) (render : Bool) (y : Nat) : Bus :=
  let b := if render then b.renderLine b.cfg.prioritySense y else b
  b.timerAdvance b.cfg.visibleLineTicks

/-- A visible line (R313, R314, R315). -/
def State.visibleLine (render : Bool) (y : Nat) (s : State) : State :=
  ((((((s.unlessFault (·.onBus (·.startOamSearch y))).unlessFault (fun s => s.runPhase s.bus.cfg.phaseOam)).unlessFault
    (·.onBus (·.setMode 3))).unlessFault (fun s => s.runPhase s.bus.cfg.phaseTransfer)).unlessFault
    (·.onBus (·.startHBlank))).unlessFault (fun s => s.runPhase s.bus.cfg.phaseHBlank)).unlessFault
    (·.onBus (·.endVisibleLine render y))

/-- A V-Blank line (R316). -/
def State.vblankLine (y : Nat) (s : State) : State :=
  ((s.unlessFault (·.onBus (·.startVBlankLine y))).unlessFault (fun s => s.runPhase s.bus.cfg.phaseVBlank)).unlessFault
    (·.onBus fun b => b.timerAdvance b.cfg.phaseVBlank)

/-- Lines run in order from `y`, `n` of them. -/
def runLines (line : Nat → State → State) (n y : Nat) (s : State) : State :=
  match n with
  | 0 => s
  | n + 1 => runLines line n (y + 1) (line y s)

/-! ## The frame -/

/-- What a frame hands to the sinks: the pixels, where the frame is rendered (R317, R336), and the audio bytes
(R337); none where a fatal error has skipped the call. -/
structure FrameOutput where
  pixels : Option (List (BitVec 32))
  audio : Option (List Byte)
deriving DecidableEq, Repr

/-- The lines of a frame, the visible ones and the vertical blank (R318), rendered or not. -/
def State.frameLines (render : Bool) (s : State) : State :=
  runLines State.vblankLine Config.vblankLines Config.visibleLines
    (runLines (State.visibleLine render) Config.visibleLines 0 s)

/-- The end of a frame, left out after a fatal error: the picture, where the frame is rendered, and the audio batch
(R317, R318, R336, R337); the sink's answers are draws. -/
def State.endFrame (pcm : List Int → List Byte) (render : Bool) (s : State) : State × FrameOutput :=
  if s.cpu.fault.isSome then (s, { pixels := none, audio := none })
  else
    let rate := Config.freeSampleRatePred s.bus.draws + 1
    let r := Sound.batch pcm s.bus.snd rate (Config.freeSamplesAvailable s.bus.draws)
    (s.onBus fun b => { b with snd := r.1, draws := b.draws + 1 },
     { pixels := if render then some s.bus.pixels else none, audio := some r.2 })

/-- `RunFrame()` (R318): the decision to render is a draw (R330); `pcm` is the OPEN `PcmEncode` (R348). -/
def runFrame (pcm : List Int → List Byte) (s : State) : State × FrameOutput :=
  if s.cpu.fault.isSome then (s, { pixels := none, audio := none })
  else
    ((s.onBus fun b => { b with draws := b.draws + 1 }).frameLines (Config.freeRender s.bus.draws)).endFrame pcm
      (Config.freeRender s.bus.draws)

end Sys2Proof.Machine
end

