-- ==== Sys2Proof/Machine/HostCalls.lean ====
section
/-! DEFINITION. The calls across the core's boundary (60_exceptions.md R336 to R340, R349): construction, input,
saved data, teardown. -/

namespace Sys2Proof.Machine

/-- What construction gives and calls (R339, R351): the instance, the title that `Load` was asked for, the two
arguments of `SetSize` (R336), and the diagnostic record of the checksums (20_memory.md R114, R115). -/
structure Construction where
  state : State
  title : List Byte
  size : Nat × Nat
  headerChecksumOk : Bool
  imageChecksumOk : Bool
deriving DecidableEq, Repr

/-- Construction under given parameters and reset record (00_scope.md R7) from an image, `load` being the save store's
`Load`; none where the image is refused (R339). -/
def construct (p : Config.Params) (r : Reset) (image : List Byte) (load : List Byte → Option (List Byte)) : Option Construction :=
  match Cartridge.ofImage r image none with
  | none => none
  | some blank =>
    match Cartridge.ofImage r image (load blank.title) with
    | none => none
    | some cart =>
      some { state := .atReset p r cart
             title := cart.title
             size := (Config.screenW, Config.screenH)
             headerChecksumOk := cart.headerChecksumOk
             imageChecksumOk := cart.imageChecksumOk }

/-- The eight named buttons (R340). -/
inductive Button where
  | up | down | left | right | a | b | start | select
deriving DecidableEq, Repr

/-- `pressed[k]`. -/
def Buttons.get (p : Buttons) (k : Button) : Bool :=
  match k with
  | .up => p.up | .down => p.down | .left => p.left | .right => p.right
  | .a => p.a | .b => p.b | .start => p.start | .select => p.select

/-- `pressed[k] <- v`. -/
def Buttons.set (p : Buttons) (k : Button) (v : Bool) : Buttons :=
  match k with
  | .up => { p with up := v } | .down => { p with down := v } | .left => { p with left := v }
  | .right => { p with right := v } | .a => { p with a := v } | .b => { p with b := v }
  | .start => { p with start := v } | .select => { p with select := v }

/-- `SetInput(k, p)` (R340): a press requests Joypad and ends `stopped`; nothing after a fatal error (R272). -/
def setInput (k : Button) (p : Bool) (s : State) : State :=
  s.unlessFault fun s =>
    let old := s.bus.pressed.get k
    let s := s.onBus fun bus => { bus with pressed := bus.pressed.set k p }
    if !old && p then (s.onBus (·.request 4)).setStopped false else s

/-- `GetSavedData()` (20_memory.md R113): it still answers after a fatal error (R272). -/
def getSavedData (s : State) : Option (List Byte) := s.bus.cart.savedData

/-- What teardown hands to `Save`: the title and the data, where there is any (R338). -/
def teardown (s : State) : Option (List Byte × List Byte) :=
  (getSavedData s).map fun data => (s.bus.cart.title, data)

/-- The calls of a host that change the state (R349). -/
inductive HostCall where
  | step
  | runFrame
  | setInput (k : Button) (p : Bool)
deriving DecidableEq, Repr

/-- The state after a call; `pcm` is the OPEN `PcmEncode`. -/
def HostCall.run (pcm : List Int → List Byte) (c : HostCall) (s : State) : State :=
  match c with
  | .step => s.stepped
  | .runFrame => (Machine.runFrame pcm s).1
  | .setInput k p => Machine.setInput k p s

/-- The state after a sequence of calls: a run of the model (70_reset_and_hazards.md R362). -/
def runCalls (pcm : List Int → List Byte) (calls : List HostCall) (s : State) : State :=
  match calls with
  | [] => s
  | c :: calls => runCalls pcm calls (c.run pcm s)

end Sys2Proof.Machine
end

