-- ==== Sys2Proof/Safety.lean ====
section
/-! DEFINITION. What a safe run is, and the invariant of the machine that statements use. -/

namespace Sys2Proof.Machine

/-- No fatal error is recorded: the run has not ended (60_exceptions.md R272, R362 (a)). -/
def State.safe (s : State) : Bool := s.cpu.fault.isNone

/-- A Step is safe when it goes on to a state in which no fatal error is recorded. -/
def Out.safe (o : Out) : Bool :=
  match o with
  | .next s => s.safe
  | .fault _ => false
  | .refused _ => false

/-- A byte array in its canonical form, with every listed offset below its size. -/
def Memory.fits (m : Memory) (n : Nat) : Bool := m.wf && Cells.below n m

/-- Every array is canonical and within its size (10_state.md R25, R26, R38, R41, R43; 20_memory.md R92). -/
def Bus.storageFits (b : Bus) : Bool :=
  b.vram.fits 0x2000 && b.wram.fits 0x2000 && b.oam.fits 160 && b.hram.fits 127 && b.sregs.wave.fits 16 &&
    b.cart.rom.fits b.cart.romLen && b.cart.xram.fits b.cart.ctl.xramSize &&
    Cells.wfFrom 0 0 b.snd.ch3.wave && Cells.below 32 b.snd.ch3.wave

/-- The decoded palettes are those of the palette registers (10_state.md R36). -/
def Bus.palettesAgree (b : Bus) : Prop :=
  b.pal.bg = .decode b.cfg b.io.bgp ∧ b.pal.obj0 = .decode b.cfg b.io.obp0 ∧ b.pal.obj1 = .decode b.cfg b.io.obp1

/-- No controller holds a bank number that its write rule replaces: 0 becomes 1 (20_memory.md R97, R107). -/
def Controller.banksLegal (c : Controller) : Bool :=
  match c with
  | .plain => true
  | .bank1 st => st.low5 ≠ 0
  | .bank2 _ => true
  | .bank3 st => st.romBank ≠ 0

/-- Every valid cache entry is one of a cell 0 to 1023, or of a tile 0 to 255, and is what it decodes to now
(10_state.md R42; 60_exceptions.md R324). -/
def Bus.cachesCurrent (b : Bus) : Prop :=
  (∀ k tile, Cells.lookup b.caches.bg k = some tile →
    k < 1024 ∧ tile = bgTile b.vram b.io (b.io.lcdc.getLsbD 3) k) ∧
  (∀ k tile, Cells.lookup b.caches.window k = some tile →
    k < 1024 ∧ tile = bgTile b.vram b.io (b.io.lcdc.getLsbD 6) k) ∧
  (∀ k tile, Cells.lookup b.caches.sprite k = some tile → k < 256 ∧ tile = objTile b.vram b.io k)

/-- The caches and the frame buffer are canonical: keys strictly rising, no blank row listed (10_state.md R42, R44). -/
def Bus.pictureFits (b : Bus) : Bool :=
  Cells.wfFrom [] 0 b.caches.bg && Cells.wfFrom [] 0 b.caches.window && Cells.wfFrom [] 0 b.caches.sprite &&
    Cells.wfFrom (blankLine b.cfg) 0 b.fb && Cells.below Config.screenH b.fb

/-- Channel 3's samples are the nibbles of the wave pattern memory, high nibble first (10_state.md R38). -/
def Bus.waveAgrees (b : Bus) : Prop :=
  ∀ k, Cells.read 0 b.snd.ch3.wave (2 * k) = (b.sregs.wave.read k).extractLsb' 4 4 ∧
    Cells.read 0 b.snd.ch3.wave (2 * k + 1) = (b.sregs.wave.read k).extractLsb' 0 4

/-- The routing of channel `k + 1` is that of a value of `NR51` (60_exceptions.md R342). -/
def Voice.routedBy (c : Voice) (k : Nat) (v : Byte) : Prop := c.toLeft = v.getLsbD (4 + k) ∧ c.toRight = v.getLsbD k

/-- The mixer's volumes and the routing are those of `NR50` and `NR51` (60_exceptions.md R342). -/
def Bus.mixerAgrees (b : Bus) : Prop :=
  b.snd.volLeft = b.sregs.nr50.extractLsb' 4 3 ∧ b.snd.volRight = b.sregs.nr50.extractLsb' 0 3 ∧
  b.snd.ch1.voice.routedBy 0 b.sregs.nr51 ∧ b.snd.ch2.voice.routedBy 1 b.sregs.nr51 ∧
  b.snd.ch3.voice.routedBy 2 b.sregs.nr51 ∧ b.snd.ch4.voice.routedBy 3 b.sregs.nr51

/-- The invariant of what stands behind the dispatcher. -/
structure Bus.Inv (b : Bus) : Prop where
  storage : b.storageFits = true
  palettes : b.palettesAgree
  banks : b.cart.ctl.banksLegal = true
  caches : b.cachesCurrent
  picture : b.pictureFits = true
  wave : b.waveAgrees
  mixer : b.mixerAgrees

/-- The invariant of the machine. -/
def State.Inv (s : State) : Prop := s.bus.Inv

/-- A reset record as 10_state.md R49 constrains it (no fatal error, not halted, not stopped, the quirk not armed, `PC`
at 0x0100), whose storage is canonical and within its size and whose bank numbers are legal, for a machine with
given parameters. -/
def Reset.fits (r : Reset) (p : Config.Params) : Bool :=
  r.cpu.fault.isNone && !r.cpu.halted && !r.cpu.stopped && !r.cpu.skipInc && decide (r.cpu.pc = 0x0100) &&
    r.vram.fits 0x2000 && r.wram.fits 0x2000 && r.oam.fits 160 && r.hram.fits 127 && r.sregs.wave.fits 16 &&
    decide (r.bank1.low5 ≠ 0) && decide (r.bank3.romBank ≠ 0) && (Bus.atReset p r .blank).pictureFits

/-- A reset record that fits, and whose tiles with a clear dirty flag are what they decode to (10_state.md R42). -/
def Reset.legal (r : Reset) (p : Config.Params) : Prop :=
  r.fits p = true ∧ (Bus.atReset p r .blank).cachesCurrent

/-! ## Where a store reaches -/

/-- The addresses whose byte a store to `a` can change: those of the same owner and offset; a cartridge control write
can change what every delegated address shows (20_memory.md R65); a write to `DMA` fills OAM (R72); `LYC` shows in
`STAT` (10_state.md R33). -/
def Bus.storeReaches (b : Bus) (a x : Word) : Bool :=
  match regionOf a.toNat, regionOf x.toNat with
  | .cart n, .cart k => decide (n < 0x8000) || (decide (0x8000 ≤ k) && decide (b.cart.target n = b.cart.target k))
  | .io .dma, .oam _ => true
  | .io .lyc, .io .stat => true
  | p, q => decide (p = q)

end Sys2Proof.Machine
end

