-- ==== Sys2Proof/Certificates/Slice0/Obligations.lean ====
section
/-! DEFINITION. The statements for the provers. Each says in its docstring which rules of spec/ it is about. A
register, flag, pair or bus update is written with the operations of Machine/Operands.lean; a next state given as
an equation says also that nothing else changes. -/

open Sys2Proof Sys2Proof.Machine

/-- One word of each instruction family, written out from the encoding the spec gives it, decodes to that
instruction and leaves the bytes after it. (The encodings are the decision D1 of the spec itself.)
(30_encoding.md, 40_load8.md, 41_load16_stack.md, 42_alu8.md, 43_alu16.md, 44_rotate_shift.md, 45_bit.md,
46_control.md, 47_system.md) -/
def Obligations.DecodeWords : Prop :=
  decode [0x78] = .ok (.ld_a_b, []) ∧
  decode [0x3E, 0x42, 0x76] = .ok (.ld_a_n 0x42, [0x76]) ∧
  decode [0x36, 0x07] = .ok (.ld_mhl_n 0x07, []) ∧
  decode [0xFA, 0x44, 0xFF] = .ok (.ld_a_mnn 0xFF44, []) ∧
  decode [0x21, 0x34, 0x12] = .ok (.ld_hl_nn 0x1234, []) ∧
  decode [0x08, 0x00, 0xC1] = .ok (.ld_mnn_sp 0xC100, []) ∧
  decode [0xC5] = .ok (.push_bc, []) ∧
  decode [0x8B] = .ok (.adc_a_e, []) ∧
  decode [0xF6, 0x03] = .ok (.or_n 0x03, []) ∧
  decode [0x35] = .ok (.dec_mhl, []) ∧
  decode [0xE8, 0x02] = .ok (.add_sp_e 0x02, []) ∧
  decode [0x07] = .ok (.rlca, []) ∧
  decode [0xCB, 0x37] = .ok (.swap_a, []) ∧
  decode [0xCB, 0x65] = .ok (.bit_4_l, []) ∧
  decode [0xCB, 0xDE] = .ok (.set_3_mhl, []) ∧
  decode [0xCB, 0xBF] = .ok (.res_7_a, []) ∧
  decode [0x20, 0xFC] = .ok (.jr_nz_e 0xFC, []) ∧
  decode [0xCD, 0x00, 0x20] = .ok (.call_nn 0x2000, []) ∧
  decode [0xEF] = .ok (.rst_28, []) ∧
  decode [0x76] = .ok (.halt, []) ∧
  decode [0x10, 0x00] = .ok (.stop 0x00, []) ∧
  decode [0xDD] = .ok (.illegal 0xDD, [])

/-- For every well-formed instruction and whatever bytes follow, the decoder reads from its encoding exactly that
instruction, with every operand at every value, and leaves the bytes that follow. (The encodings are the
decision D1 of the spec itself.) (30_encoding.md) -/
def Obligations.DecodeEncode : Prop :=
  ∀ (i : Instr) (rest : List Byte), i.wellFormed = true → decode (encode i ++ rest) = .ok (i, rest)

/-- Whatever bytes the decoder accepts, the instruction it reads is well-formed, and its encoding followed by the
bytes left over is the bytes that were read: each byte sequence has one meaning. And any three bytes begin with
an instruction: no byte sequence is without a meaning, the eleven illegal bytes being instructions of their own.
(The encodings, the eleven illegal bytes among them, are the decision D1 of the spec itself; that the eleven are
one constructor: log 17.) (30_encoding.md R136, 30_encoding.md R132, 30_encoding.md R133) -/
def Obligations.EncodeDecode : Prop :=
  (∀ (bytes : List Byte) (i : Instr) (rest : List Byte), decode bytes = .ok (i, rest) →
    i.wellFormed = true ∧ encode i ++ rest = bytes) ∧
  (∀ (x y z : Byte) (rest : List Byte), ∃ i rest', decode (x :: y :: z :: rest) = .ok (i, rest'))

/-- With no fatal error recorded, not halted, not stopped, the HALT quirk not armed and no interrupt to take: where
the encoding of a well-formed instruction stands at PC, in bytes whose reading has no side effect, a Step is
that instruction executed with PC moved past its bytes. And whatever a fetch gives, side effects included, is
what the Step runs, from the state the fetch leaves. (60_exceptions.md R290, 00_scope.md R10) -/
def Obligations.StepRunsDecoded : Prop :=
  ∀ (s : State), s.cpu.fault = none → s.cpu.halted = false → s.cpu.stopped = false →
    (s.cpu.ime = false ∨ s.bus.pending = 0) →
    (∀ i : Instr, i.wellFormed = true → s.cpu.skipInc = false →
      (∀ (k : Nat) (h : k < (encode i).length),
        s.bus.peek (s.cpu.pc + BitVec.ofNat 16 k) = some ((encode i)[k]) ∧
        s.bus.afterRead (s.cpu.pc + BitVec.ofNat 16 k) = s.bus) →
      step s = exec i (s.setPc (s.cpu.pc + BitVec.ofNat 16 (encode i).length))) ∧
    (∀ i t, fetchInstr s = .ok i t → step s = exec i t)

/-- HALT executed with IME clear and no source pending and enabled arms skip_inc; with IME set it does not. With
skip_inc armed the next opcode fetch leaves PC where it is and clears the latch: a one-byte instruction runs
with PC on its own byte, a longer one takes its opcode byte as its first operand byte, and the byte 0xCB becomes
SET 1,E. (Bytes whose reading has no side effect.) (The condition, that IME set arms nothing, and what a longer
instruction reads are R261 (a), (d), (e), the decision D15 of the spec itself; that the byte 0xCB becomes SET
1,E is the sentence of R265 that the spec marks as derived from R10 and R261.) (47_system.md R261, 47_system.md
R265, 70_reset_and_hazards.md R361) -/
def Obligations.HaltQuirkFetch : Prop :=
  (∀ (s t : State), exec .halt s = .next t →
    (s.cpu.ime = false → s.bus.pending = 0 → t.cpu.skipInc = true ∧ t.cpu.pc = s.cpu.pc) ∧
    (s.cpu.ime = true → t.cpu.skipInc = s.cpu.skipInc)) ∧
  ∀ (s : State) (v : Byte), s.cpu.fault = none → s.cpu.halted = false → s.cpu.stopped = false →
    (s.cpu.ime = false ∨ s.bus.pending = 0) → s.cpu.skipInc = true →
    s.bus.peek s.cpu.pc = some v → s.bus.afterRead s.cpu.pc = s.bus →
    (∀ i, decodeOp v = .op i → step s = exec i (s.setSkipInc false)) ∧
    (∀ f, decodeOp v = .n8 f → step s = exec (f v) ((s.setSkipInc false).setPc (s.cpu.pc + 1))) ∧
    (∀ f w, decodeOp v = .n16 f → s.bus.peek (s.cpu.pc + 1) = some w →
      s.bus.afterRead (s.cpu.pc + 1) = s.bus →
      step s = exec (f (word w v)) ((s.setSkipInc false).setPc (s.cpu.pc + 2))) ∧
    (v = 0xCB → step s = exec .set_1_e ((s.setSkipInc false).setPc (s.cpu.pc + 1)))

/-- In a state with a fatal error recorded, Step, a driver phase, a line, RunFrame and SetInput leave the state
exactly as it is, the error with it, and RunFrame hands nothing to the sinks; the error is of one of the two
kinds. (R24) -/
def Obligations.FaultIsFinal : Prop :=
  ∀ (s : State) (f : Fault), s.cpu.fault = some f →
    step s = .next s ∧ (∀ budget, s.runPhase budget = s) ∧
    (∀ render y, s.visibleLine render y = s ∧ s.vblankLine y = s) ∧
    (∀ pcm, runFrame pcm s = (s, { pixels := none, audio := none })) ∧ (∀ k p, setInput k p s = s) ∧
    ((∃ op, f = .unknownOpcode op) ∨ ∃ a, f = .cartridgeAccess a)

/-- In every state a Step, and every instruction executed, answers a next state: the model faults nowhere and
refuses nothing (a fatal error of the spec is recorded in the next state). Where PC is an address that the
cartridge does not map, a Step that would fetch records CartridgeAccess with PC and changes nothing else: no
tick, PC not advanced. (That a fatal error is recorded in a next state is the model's form: log 6.)
(60_exceptions.md R271, 60_exceptions.md R272, 60_exceptions.md R276) -/
def Obligations.StepNeverStops : Prop :=
  (∀ s : State, ∃ t, step s = .next t) ∧ (∀ (i : Instr) (s : State), ∃ t, exec i s = .next t) ∧
  (∀ (s : State), s.cpu.fault = none → s.cpu.halted = false → s.cpu.stopped = false →
    (s.cpu.ime = false ∨ s.bus.pending = 0) → s.bus.readable s.cpu.pc = false →
    step s = .next (s.raise (.cartridgeAccess s.cpu.pc)))

/-- No instruction but DI (to 0), EI (to 1) and RETI (to 1, where its pops are not refused) changes IME, and none
but HALT changes halted, which it only sets. In a Step: a dispatch, which happens with IME set, clears IME and
halted; halted set with nothing pending and enabled adds ticks and leaves PC and halted; a pending and enabled
source ends halted; halted goes from 0 to 1 only where the instruction fetched is HALT. (The wake rule R292 and
what ends halted are the decision D15 of the spec itself; that a refused pop of RETI is recorded in a next
state: log 6, DEDUCED.) (10_state.md R19, 10_state.md R20, 60_exceptions.md R292, 60_exceptions.md R275,
46_control.md R254) -/
def Obligations.ImeAndHaltedWriters : Prop :=
  (∀ (i : Instr) (s t : State), s.cpu.fault = none → exec i s = .next t →
    t.cpu.ime = (if i = .di then false else if i = .ei then true
      else if i = .reti then t.cpu.fault.isNone || s.cpu.ime else s.cpu.ime) ∧
    (i ≠ .halt → t.cpu.halted = s.cpu.halted) ∧ (s.cpu.halted = true → t.cpu.halted = true)) ∧
  (∀ (s t : State), s.cpu.fault = none → step s = .next t →
    (s.cpu.ime = true → s.bus.pending ≠ 0 → t.cpu.ime = false ∧ t.cpu.halted = false) ∧
    (s.cpu.ime = false → t.cpu.ime = true → ∃ i u, fetchInstr s.wake = .ok i u ∧ (i = .ei ∨ i = .reti)) ∧
    (s.cpu.halted = true → s.bus.pending = 0 →
      t.cpu.pc = s.cpu.pc ∧ s.cpu.ticks < t.cpu.ticks ∧ t.cpu.halted = true) ∧
    (s.cpu.halted = true → s.bus.pending ≠ 0 → step s = step (s.setHalted false)) ∧
    (s.cpu.halted = false → t.cpu.halted = true → ∃ u, fetchInstr s = .ok .halt u))

/-- Exactly the bytes 0xD3, 0xDB, 0xDD, 0xE3, 0xE4, 0xEB, 0xEC, 0xED, 0xF4, 0xFC, 0xFD, as the first byte of an
instruction, are decoded to an illegal one. Executing it records UnknownOpcode with the byte; no tick is added,
no register, flag or memory byte changes. As a Step: PC is past the byte. (Which bytes are illegal and what
state is left are the decisions D1 and D19 of the spec itself; that the error is recorded in a next state: log
6.) (47_system.md R268) -/
def Obligations.IllegalOpcode : Prop :=
  ∀ (op : Byte) (s : State),
    (decodeOp op = .op (.illegal op) ↔
      op ∈ ([0xD3, 0xDB, 0xDD, 0xE3, 0xE4, 0xEB, 0xEC, 0xED, 0xF4, 0xFC, 0xFD] : List Byte)) ∧
    (∀ op', decodeSecondary op ≠ .illegal op') ∧
    exec (.illegal op) s = .next (s.raise (.unknownOpcode op)) ∧
    (decodeOp op = .op (.illegal op) → s.cpu.fault = none → s.cpu.halted = false → s.cpu.stopped = false →
      (s.cpu.ime = false ∨ s.bus.pending = 0) → s.bus.peek s.cpu.pc = some op → s.bus.afterRead s.cpu.pc = s.bus →
      step s = .next ((if s.cpu.skipInc then s.setSkipInc false else s.setPc (s.cpu.pc + 1)).raise
        (.unknownOpcode op)))

/-- With IME set, where i is the lowest bit set in both IE and IF (bits 4 to 0, Vertical-Blank first), a Step
dispatches source i: it does what taking interrupt i does and, where the push is not refused, goes to the vector
of i. Where no bit is set in both, or IME is clear, no source is dispatched. (R284) -/
def Obligations.InterruptPriority : Prop :=
  ∀ (s : State), s.cpu.fault = none →
    let both : Fin 5 → Bool := fun j => s.bus.io.ie.getLsbD j.val && s.bus.io.ifl.getLsbD j.val
    (∀ i : Fin 5, s.cpu.ime = true → both i = true → (∀ j : Fin 5, j < i → both j = false) →
      step s = takeInterrupt i s.wake ∧
      ∀ t, step s = .next t → t.cpu.fault = none → t.cpu.pc = Config.intVector i) ∧
    ((∀ j, both j = false) → s.dispatched = none) ∧ (s.cpu.ime = false → s.dispatched = none)

/-- With IME set and source i the first pending and enabled one, a Step clears IF bit i, IME, halted and stopped,
pushes PC (high byte at SP - 1, then low byte at SP - 2), goes to 0x40 + 8 i and adds the ticks of the OPEN
parameter INT_DISPATCH_TICKS; no fetch occurs, nothing else changes. Where a push is refused by the cartridge,
IF bit i, IME, halted and stopped stay cleared, SP keeps the decrements done before the refused write, PC stays,
no tick is added, and the fatal error is recorded with the address. (Its default is 20: log 11.) (The order, the
vectors and the ticks are the decisions D12, D14, D18 of the spec itself.) (60_exceptions.md R275,
60_exceptions.md R290, 60_exceptions.md R291, 60_exceptions.md R293, 60_exceptions.md R296) -/
def Obligations.InterruptDispatch : Prop :=
  Config.Params.default.dispatchTicks = 20 ∧ ∀ (s : State) (i : Fin 5), s.cpu.fault = none → s.cpu.ime = true →
    firstSource (s.bus.io.ie.extractLsb' 0 5 &&& s.bus.io.ifl) = some i →
    let acked : Bus := { s.bus with io := { s.bus.io with ifl := s.bus.io.ifl &&& ~~~(1#5 <<< i.val) } }
    let taken : Cpu := { s.cpu with ime := false, halted := false, stopped := false }
    (∀ b c, acked.write (s.cpu.sp - 1) (hiByte s.cpu.pc) = .ok () b →
      b.write (s.cpu.sp - 2) (loByte s.cpu.pc) = .ok () c →
      step s = .next
        { cpu := { taken with
            sp := s.cpu.sp - 2, pc := BitVec.ofNat 16 (0x40 + 8 * i.val), ticks := s.cpu.ticks + s.bus.cfg.dispatchTicks }
          bus := c }) ∧
    (∀ x b, acked.write (s.cpu.sp - 1) (hiByte s.cpu.pc) = .fatal x b →
      step s = .next { cpu := { taken with sp := s.cpu.sp - 1, fault := some (.cartridgeAccess x) }, bus := b }) ∧
    (∀ x b c, acked.write (s.cpu.sp - 1) (hiByte s.cpu.pc) = .ok () b →
      b.write (s.cpu.sp - 2) (loByte s.cpu.pc) = .fatal x c →
      step s = .next { cpu := { taken with sp := s.cpu.sp - 2, fault := some (.cartridgeAccess x) }, bus := c })

/-- A Step of a CPU that is halted with nothing pending and enabled, or stopped with no interrupt to take, adds the
ticks of the OPEN parameter HALT_IDLE_TICKS; PC and everything else stay. A halted CPU with a source pending and
enabled does in a Step what it does with halted cleared, whatever IME is: with IME set it takes the interrupt,
with IME clear it goes on to the instruction at PC, or stays stopped. (Its default is 4: log 11.) (What ends the
halted and the stopped state are the decisions D15 and D16 of the spec itself.) (60_exceptions.md R290,
60_exceptions.md R292, 60_exceptions.md R303) -/
def Obligations.IdleAndWake : Prop :=
  Config.Params.default.idleTicks = 4 ∧ ∀ (s : State), s.cpu.fault = none →
    (s.cpu.halted = true → s.bus.pending = 0 → step s = .next (s.tick s.bus.cfg.idleTicks)) ∧
    (s.cpu.stopped = true → s.cpu.halted = false → (s.cpu.ime = false ∨ s.bus.pending = 0) →
      step s = .next (s.tick s.bus.cfg.idleTicks)) ∧
    (s.cpu.halted = true → s.bus.pending ≠ 0 → step s = step (s.setHalted false))

/-- LD r,r' is the byte 0x40 + 8 r + r', copies register r' into r and adds 4 ticks; LD r,n is the bytes 0x06 + 8 r,
n, loads n into r and adds 8 ticks; nothing else changes. (Encodings and ticks are the decisions D1 and D14 of
the spec itself. The ticks are those of the OPEN parameter TickCost; the numbers are its default: log 11, log
30.) (40_load8.md R141, 40_load8.md R142) -/
def Obligations.LoadRegister : Prop :=
  ∀ (dst src : Reg8) (n : Byte) (s : State),
    let d := Config.Params.default.tickCost
    encode (.ldRegReg dst src) = [BitVec.ofNat 8 (0x40 + 8 * dst.code + src.code)] ∧
    exec (.ldRegReg dst src) s = .next ((s.setReg dst (s.reg src)).tick (s.cost (0x40 + 8 * dst.code + src.code) true)) ∧
    encode (.ldRegImm dst n) = [BitVec.ofNat 8 (0x06 + 8 * dst.code), n] ∧
    exec (.ldRegImm dst n) s = .next ((s.setReg dst n).tick (s.cost (0x06 + 8 * dst.code) true)) ∧
    d (0x40 + 8 * dst.code + src.code) true = 4 ∧ d (0x06 + 8 * dst.code) true = 8

/-- The loads of a register from the byte at HL (0x46 + 8 r, 8 ticks) and of A from the byte at BC (0x0A, 8), at DE
(0x1A, 8) and at an absolute address (0xFA, 16): the register alone takes the byte read; where the cartridge
refuses the read the fatal error is recorded and nothing else changes. LDH A,(C) and LDH A,(n) load A from
0xFF00 + C and 0xFF00 + n, in 8 and 12 ticks, in every state: the high page is never a cartridge address. The
read leaves what a read of that address leaves (a palette read sets dirty flags, an unmapped one takes a draw).
(Encodings and ticks are the decisions D1 and D14 of the spec itself. The ticks are those of the OPEN parameter
TickCost; the numbers are its default: log 11, log 30.) (40_load8.md R143, 40_load8.md R146, 40_load8.md R147,
40_load8.md R150, 40_load8.md R152, 40_load8.md R154) -/
def Obligations.LoadFromMemory : Prop :=
  ∀ (dst : Reg8) (nn : Word) (n : Byte) (s : State),
    let d := Config.Params.default.tickCost
    (encode (.ldRegMem dst) = [BitVec.ofNat 8 (0x46 + 8 * dst.code)] ∧ encode .ld_a_mbc = [0x0A] ∧
      encode .ld_a_mde = [0x1A] ∧ encode (.ld_a_mnn nn) = [0xFA, loByte nn, hiByte nn]) ∧
    (∀ f : Instr × Reg8 × Word × Nat × Nat, f ∈
      ([(.ldRegMem dst, dst, word (s.reg .h) (s.reg .l), 0x46 + 8 * dst.code, 8),
        (.ld_a_mbc, .a, word (s.reg .b) (s.reg .c), 0x0A, 8),
        (.ld_a_mde, .a, word (s.reg .d) (s.reg .e), 0x1A, 8), (.ld_a_mnn nn, .a, nn, 0xFA, 16)] :
        List (Instr × Reg8 × Word × Nat × Nat)) →
      d f.2.2.2.1 true = f.2.2.2.2 ∧
      (∀ v b, s.bus.read f.2.2.1 = .ok v b →
        exec f.1 s = .next (((s.setBus b).setReg f.2.1 v).tick (s.cost f.2.2.2.1 true))) ∧
      (∀ x b, s.bus.read f.2.2.1 = .fatal x b → exec f.1 s = .next ((s.setBus b).raise (.cartridgeAccess x)))) ∧
    encode .ldh_a_mc = [0xF2] ∧ encode (.ldh_a_mn n) = [0xF0, n] ∧
    exec .ldh_a_mc s = .next (((s.setBus (s.bus.afterRead (0xFF00#16 + (s.reg .c).setWidth 16))).setReg .a
      (s.bus.value (0xFF00#16 + (s.reg .c).setWidth 16))).tick (s.cost 0xF2 true)) ∧
    exec (.ldh_a_mn n) s = .next (((s.setBus (s.bus.afterRead (0xFF00#16 + n.setWidth 16))).setReg .a
      (s.bus.value (0xFF00#16 + n.setWidth 16))).tick (s.cost 0xF0 true)) ∧
    d 0xF2 true = 8 ∧ d 0xF0 true = 12

/-- The one-byte stores: encodings, the address stored to, the byte stored, ticks 8, 12, 8, 8, 16, 8, 12; nothing
but the bus and the ticks changes; where the write is refused the fatal error is recorded, with the bus as the
write left it. (Encodings and ticks are the decisions D1 and D14 of the spec itself. The ticks are those of the
OPEN parameter TickCost; the numbers are its default: log 11, log 30.) (40_load8.md R144, 40_load8.md R145,
40_load8.md R148, 40_load8.md R149, 40_load8.md R151, 40_load8.md R153, 40_load8.md R155) -/
def Obligations.StoreToMemory : Prop :=
  ∀ (src : Reg8) (nn : Word) (n : Byte) (s : State),
    let d := Config.Params.default.tickCost
    (encode (.ldMemReg src) = [BitVec.ofNat 8 (0x70 + src.code)] ∧ encode (.ld_mhl_n n) = [0x36, n] ∧
      encode .ld_mbc_a = [0x02] ∧ encode .ld_mde_a = [0x12] ∧ encode (.ld_mnn_a nn) = [0xEA, loByte nn, hiByte nn] ∧
      encode .ldh_mc_a = [0xE2] ∧ encode (.ldh_mn_a n) = [0xE0, n]) ∧
    ∀ f : Instr × Word × Byte × Nat × Nat, f ∈
      ([(.ldMemReg src, s.hl, s.reg src, 0x70 + src.code, 8), (.ld_mhl_n n, s.hl, n, 0x36, 12),
        (.ld_mbc_a, s.stackPair .bc, s.reg .a, 0x02, 8), (.ld_mde_a, s.stackPair .de, s.reg .a, 0x12, 8),
        (.ld_mnn_a nn, nn, s.reg .a, 0xEA, 16), (.ldh_mc_a, word 0xFF (s.reg .c), s.reg .a, 0xE2, 8),
        (.ldh_mn_a n, word 0xFF n, s.reg .a, 0xE0, 12)] : List (Instr × Word × Byte × Nat × Nat)) →
      d f.2.2.2.1 true = f.2.2.2.2 ∧
      (∀ b, s.bus.write f.2.1 f.2.2.1 = .ok () b → exec f.1 s = .next ((s.setBus b).tick (s.cost f.2.2.2.1 true))) ∧
      (∀ x b, s.bus.write f.2.1 f.2.2.1 = .fatal x b →
        exec f.1 s = .next ((s.setBus b).raise (.cartridgeAccess x)))

/-- The four transfers between A and the byte at HL, after which HL moves by one, modulo 2^16: encodings 0x2A, 0x3A,
0x22, 0x32; no flag changes; 8 ticks; a refused access leaves HL as it is. (Encodings and ticks are the
decisions D1 and D14 of the spec itself. The ticks are those of the OPEN parameter TickCost; the numbers are its
default: log 11, log 30.) (40_load8.md R156, 40_load8.md R157, 40_load8.md R158, 40_load8.md R159) -/
def Obligations.HlStep : Prop :=
  ∀ (s : State),
    let d := Config.Params.default.tickCost
    (encode .ld_a_mhli = [0x2A] ∧ encode .ld_a_mhld = [0x3A] ∧ encode .ld_mhli_a = [0x22] ∧
      encode .ld_mhld_a = [0x32]) ∧
    (d 0x2A true = 8 ∧ d 0x3A true = 8 ∧ d 0x22 true = 8 ∧ d 0x32 true = 8) ∧
    (∀ v b, s.bus.read s.hl = .ok v b →
      exec .ld_a_mhli s = .next ((((s.setBus b).setReg .a v).setStackPair .hl (s.hl + 1)).tick (s.cost 0x2A true)) ∧
      exec .ld_a_mhld s = .next ((((s.setBus b).setReg .a v).setStackPair .hl (s.hl - 1)).tick (s.cost 0x3A true))) ∧
    (∀ x b, s.bus.read s.hl = .fatal x b →
      exec .ld_a_mhli s = .next ((s.setBus b).raise (.cartridgeAccess x)) ∧
      exec .ld_a_mhld s = .next ((s.setBus b).raise (.cartridgeAccess x))) ∧
    (∀ b, s.bus.write s.hl (s.reg .a) = .ok () b →
      exec .ld_mhli_a s = .next (((s.setBus b).setStackPair .hl (s.hl + 1)).tick (s.cost 0x22 true)) ∧
      exec .ld_mhld_a s = .next (((s.setBus b).setStackPair .hl (s.hl - 1)).tick (s.cost 0x32 true))) ∧
    (∀ x b, s.bus.write s.hl (s.reg .a) = .fatal x b →
      exec .ld_mhli_a s = .next ((s.setBus b).raise (.cartridgeAccess x)) ∧
      exec .ld_mhld_a s = .next ((s.setBus b).raise (.cartridgeAccess x)))

/-- LD rp,nn is 0x01 + 16 p, low byte, high byte, and loads the pair, 12 ticks; LD SP,HL is 0xF9 and copies HL to
SP, 8 ticks; LD (nn),SP is 0x08 and the address, stores the low byte of SP at nn, then the high byte at nn + 1,
20 ticks, and if the second write is refused the first byte stays written; nothing else changes. (Encodings and
ticks are the decisions D1 and D14 of the spec itself. The ticks are those of the OPEN parameter TickCost; the
numbers are its default: log 11, log 30.) (41_load16_stack.md R166, 41_load16_stack.md R167, 41_load16_stack.md
R168) -/
def Obligations.WordLoads : Prop :=
  ∀ (p : Pair) (nn : Word) (s : State),
    let d := Config.Params.default.tickCost
    (encode (.ldPairImm p nn) = [BitVec.ofNat 8 (0x01 + 16 * p.code), loByte nn, hiByte nn] ∧
      encode .ld_sp_hl = [0xF9] ∧ encode (.ld_mnn_sp nn) = [0x08, loByte nn, hiByte nn]) ∧
    (d (0x01 + 16 * p.code) true = 12 ∧ d 0xF9 true = 8 ∧ d 0x08 true = 20) ∧
    exec (.ldPairImm p nn) s = .next ((s.setPair p nn).tick (s.cost (0x01 + 16 * p.code) true)) ∧
    exec .ld_sp_hl s = .next ((s.setSp s.hl).tick (s.cost 0xF9 true)) ∧
    (∀ b c, s.bus.write nn (loByte s.cpu.sp) = .ok () b → b.write (nn + 1) (hiByte s.cpu.sp) = .ok () c →
      exec (.ld_mnn_sp nn) s = .next ((s.setBus c).tick (s.cost 0x08 true))) ∧
    (∀ x b, s.bus.write nn (loByte s.cpu.sp) = .fatal x b →
      exec (.ld_mnn_sp nn) s = .next ((s.setBus b).raise (.cartridgeAccess x))) ∧
    (∀ x b c, s.bus.write nn (loByte s.cpu.sp) = .ok () b → b.write (nn + 1) (hiByte s.cpu.sp) = .fatal x c →
      exec (.ld_mnn_sp nn) s = .next ((s.setBus c).raise (.cartridgeAccess x)))

/-- A push stores the high byte at SP - 1, then the low byte at SP - 2, and leaves SP two lower, 16 ticks; AF is A
and the flag byte with its low nibble 0; a refused write leaves SP at the decrements done. (Encodings and ticks
are the decisions D1 and D14 of the spec itself. The ticks are those of the OPEN parameter TickCost; the numbers
are its default: log 11, log 30.) (41_load16_stack.md R169, 41_load16_stack.md R170) -/
def Obligations.PushPair : Prop :=
  ∀ (p : StackPair) (s : State),
    let d := Config.Params.default.tickCost
    encode (.pushPair p) = [BitVec.ofNat 8 (0xC5 + 16 * p.code)] ∧ encode .push_af = [0xF5] ∧
    d (0xC5 + 16 * p.code) true = 16 ∧ d 0xF5 true = 16 ∧
    ∀ f : Instr × Nat × Word, f ∈ ([(.pushPair p, 0xC5 + 16 * p.code, s.stackPair p),
        (.push_af, 0xF5, word (s.reg .a) (BitVec.ofBool s.cpu.flags.z ++ BitVec.ofBool s.cpu.flags.n ++
          BitVec.ofBool s.cpu.flags.h ++ BitVec.ofBool s.cpu.flags.c ++ 0#4))] : List (Instr × Nat × Word)) →
      (∀ b c, s.bus.write (s.cpu.sp - 1) (hiByte f.2.2) = .ok () b → b.write (s.cpu.sp - 2) (loByte f.2.2) = .ok () c →
        exec f.1 s = .next (((s.setBus c).setSp (s.cpu.sp - 2)).tick (s.cost f.2.1 true))) ∧
      (∀ x b, s.bus.write (s.cpu.sp - 1) (hiByte f.2.2) = .fatal x b →
        exec f.1 s = .next (((s.setBus b).setSp (s.cpu.sp - 1)).raise (.cartridgeAccess x))) ∧
      (∀ x b c, s.bus.write (s.cpu.sp - 1) (hiByte f.2.2) = .ok () b →
        b.write (s.cpu.sp - 2) (loByte f.2.2) = .fatal x c →
        exec f.1 s = .next (((s.setBus c).setSp (s.cpu.sp - 2)).raise (.cartridgeAccess x)))

/-- A pop reads the low byte at SP, then the high byte at SP + 1, and leaves SP two higher, 12 ticks; POP AF takes
the flags from bits 7 to 4 of the low byte and discards bits 3 to 0; a refused read leaves SP at the increments
done. (Encodings and ticks are the decisions D1 and D14 of the spec itself. The ticks are those of the OPEN
parameter TickCost; the numbers are its default: log 11, log 30.) (41_load16_stack.md R171, 41_load16_stack.md
R172) -/
def Obligations.PopPair : Prop :=
  ∀ (p : StackPair) (s : State),
    let d := Config.Params.default.tickCost
    encode (.popPair p) = [BitVec.ofNat 8 (0xC1 + 16 * p.code)] ∧ encode .pop_af = [0xF1] ∧
    d (0xC1 + 16 * p.code) true = 12 ∧ d 0xF1 true = 12 ∧
    (∀ l h b c, s.bus.read s.cpu.sp = .ok l b → b.read (s.cpu.sp + 1) = .ok h c →
      exec (.popPair p) s = .next ((((s.setBus c).setSp (s.cpu.sp + 2)).setStackPair p (word h l)).tick
        (s.cost (0xC1 + 16 * p.code) true)) ∧
      exec .pop_af s = .next (((((s.setBus c).setSp (s.cpu.sp + 2)).setReg .a h).setFlags
        { z := l.getLsbD 7, n := l.getLsbD 6, h := l.getLsbD 5, c := l.getLsbD 4 }).tick (s.cost 0xF1 true))) ∧
    ∀ f : Instr, f ∈ ([.popPair p, .pop_af] : List Instr) →
      (∀ x b, s.bus.read s.cpu.sp = .fatal x b → exec f s = .next ((s.setBus b).raise (.cartridgeAccess x))) ∧
      (∀ l x b c, s.bus.read s.cpu.sp = .ok l b → b.read (s.cpu.sp + 1) = .fatal x c →
        exec f s = .next (((s.setBus c).setSp (s.cpu.sp + 1)).raise (.cartridgeAccess x)))

/-- Each of ADD, ADC, SUB, SBC, AND, XOR, OR, CP takes its operand from a register (0x80 + 8 k + r, 4 ticks), from
the byte at HL (0x86 + 8 k, 8 ticks) or from an immediate (0xC6 + 8 k, n, 8 ticks); A and the flags alone take
the result; the register and immediate forms complete in every state, the (HL) form faults only where the read
is refused. (Encodings and ticks are the decisions D1 and D14 of the spec itself. The ticks are those of the
OPEN parameter TickCost; the numbers are its default: log 11, log 30.) (42_alu8.md R175) -/
def Obligations.AluForms : Prop :=
  ∀ (op : AluOp) (r : Reg8) (n : Byte) (s : State),
    let d := Config.Params.default.tickCost
    let after : State → Byte → State := fun t x =>
      (t.setReg .a (alu op (t.reg .a) x t.cpu.flags).1).setFlags (alu op (t.reg .a) x t.cpu.flags).2
    encode (.aluReg op r) = [BitVec.ofNat 8 (0x80 + 8 * op.code + r.code)] ∧
    encode (.aluMem op) = [BitVec.ofNat 8 (0x86 + 8 * op.code)] ∧
    encode (.aluImm op n) = [BitVec.ofNat 8 (0xC6 + 8 * op.code), n] ∧
    (d (0x80 + 8 * op.code + r.code) true = 4 ∧ d (0xC6 + 8 * op.code) true = 8 ∧ d (0x86 + 8 * op.code) true = 8) ∧
    exec (.aluReg op r) s = .next ((after s (s.reg r)).tick (s.cost (0x80 + 8 * op.code + r.code) true)) ∧
    exec (.aluImm op n) s = .next ((after s n).tick (s.cost (0xC6 + 8 * op.code) true)) ∧
    (∀ v b, s.bus.read s.hl = .ok v b → exec (.aluMem op) s = .next ((after (s.setBus b) v).tick (s.cost (0x86 + 8 * op.code) true))) ∧
    (∀ x b, s.bus.read s.hl = .fatal x b → exec (.aluMem op) s = .next ((s.setBus b).raise (.cartridgeAccess x)))

/-- ADD and ADC give the exact sum of A, the operand and (ADC) the carry, modulo 256, N 0, H a carry out of bit 3, C
out of bit 7; SUB and SBC the exact difference of A, the operand and (SBC) the carry, modulo 256, N 1, H a
borrow into bit 4, C a borrow; CP has the flags of SUB and leaves A; AND, XOR, OR are bitwise, N and C 0, H 1
after AND alone; Z is that the result (for CP the difference) is 0. (The flag formulas are the decision D2 of
the spec itself.) (42_alu8.md R176, 42_alu8.md R177, 42_alu8.md R178, 42_alu8.md R179, 42_alu8.md R180,
42_alu8.md R181, 42_alu8.md R182, 42_alu8.md R183, 42_alu8.md R188) -/
def Obligations.AluResult : Prop :=
  ∀ (a x : Byte) (f : Flags),
    let k : Nat := if f.c then 1 else 0
    let sum (c : Nat) : Byte := BitVec.ofNat 8 ((a.toNat + x.toNat + c) % 256)
    let dif (c : Nat) : Byte := BitVec.ofNat 8 ((a.toNat + 512 - x.toNat - c) % 256)
    let sumFlags (c : Nat) : Flags := { z := decide ((a.toNat + x.toNat + c) % 256 = 0), n := false,
                                        h := decide (a.toNat % 16 + x.toNat % 16 + c > 0xF),
                                        c := decide (a.toNat + x.toNat + c > 0xFF) }
    let difFlags (c : Nat) : Flags := { z := decide ((a.toNat + 512 - x.toNat - c) % 256 = 0), n := true,
                                        h := decide (a.toNat % 16 < x.toNat % 16 + c),
                                        c := decide (a.toNat < x.toNat + c) }
    alu .add a x f = (sum 0, sumFlags 0) ∧ alu .adc a x f = (sum k, sumFlags k) ∧
    alu .sub a x f = (dif 0, difFlags 0) ∧ alu .sbc a x f = (dif k, difFlags k) ∧
    alu .cp a x f = (a, difFlags 0) ∧
    alu .and a x f = (a &&& x, { z := decide (a &&& x = 0), n := false, h := true, c := false }) ∧
    alu .xor a x f = (a ^^^ x, { z := decide (a ^^^ x = 0), n := false, h := false, c := false }) ∧
    alu .or a x f = (a ||| x, { z := decide (a ||| x = 0), n := false, h := false, c := false })

/-- INC r is 0x04 + 8 r, DEC r is 0x05 + 8 r, 4 ticks, on (HL) 0x34 and 0x35, 12 ticks: the byte moves by one modulo
256, Z is that the result is 0, N is 0 or 1, H is a carry out of bit 3 or a borrow into bit 4, C is unchanged;
nothing else changes. On (HL) the byte is read, then written, then the flags are; a refused access is recorded
and leaves the flags. (Encodings and ticks are the decisions D1 and D14 of the spec itself. The ticks are those
of the OPEN parameter TickCost; the numbers are its default: log 11, log 30.) (42_alu8.md R184, 42_alu8.md R185,
42_alu8.md R186, 42_alu8.md R187) -/
def Obligations.IncDecByte : Prop :=
  ∀ (r : Reg8) (s : State),
    let d := Config.Params.default.tickCost
    let up (v : Byte) : Flags := { z := decide (v + 1 = 0), n := false, h := decide (v.extractLsb' 0 4 = 0xF#4), c := s.cpu.flags.c }
    let down (v : Byte) : Flags := { z := decide (v - 1 = 0), n := true, h := decide (v.extractLsb' 0 4 = 0x0#4), c := s.cpu.flags.c }
    (encode (.incReg r) = [BitVec.ofNat 8 (0x04 + 8 * r.code)] ∧ encode .inc_mhl = [0x34] ∧
      encode (.decReg r) = [BitVec.ofNat 8 (0x05 + 8 * r.code)] ∧ encode .dec_mhl = [0x35]) ∧
    (d (0x04 + 8 * r.code) true = 4 ∧ d 0x34 true = 12 ∧ d (0x05 + 8 * r.code) true = 4 ∧ d 0x35 true = 12) ∧
    ∀ f : Instr × Instr × (Byte → Byte) × (Byte → Flags) × Nat × Nat,
      f ∈ ([(.incReg r, .inc_mhl, fun v => v + 1, up, 0x04 + 8 * r.code, 0x34), (.decReg r, .dec_mhl, fun v => v - 1, down, 0x05 + 8 * r.code, 0x35)] :
        List (Instr × Instr × (Byte → Byte) × (Byte → Flags) × Nat × Nat)) →
      exec f.1 s = .next (((s.setReg r (f.2.2.1 (s.reg r))).setFlags (f.2.2.2.1 (s.reg r))).tick (s.cost f.2.2.2.2.1 true)) ∧
      (∀ v b c, s.bus.read s.hl = .ok v b → b.write s.hl (f.2.2.1 v) = .ok () c →
        exec f.2.1 s = .next (((s.setBus c).setFlags (f.2.2.2.1 v)).tick (s.cost f.2.2.2.2.2 true))) ∧
      (∀ x b, s.bus.read s.hl = .fatal x b → exec f.2.1 s = .next ((s.setBus b).raise (.cartridgeAccess x))) ∧
      (∀ v x b c, s.bus.read s.hl = .ok v b → b.write s.hl (f.2.2.1 v) = .fatal x c →
        exec f.2.1 s = .next ((s.setBus c).raise (.cartridgeAccess x)))

/-- DAA is 0x27. After an addition 6 is added where H is set or the low nibble exceeds 9, and 0x60 where C is set or
A exceeds 0x99, both tests on A before any adjustment; after a subtraction 6 is subtracted where H is set and
0x60 where C is set. Z is that the result is 0, N is unchanged, H is 0, C is set where 0x60 was added and else
unchanged. 4 ticks; nothing else changes. (Encodings and ticks are the decisions D1 and D14 of the spec itself.
The ticks are those of the OPEN parameter TickCost; the numbers are its default: log 11, log 30.) (The algorithm
is the decision D3 of the spec itself.) (42_alu8.md R199) -/
def Obligations.DecimalAdjust : Prop :=
  ∀ (s : State), encode .daa = [0x27] ∧ Config.Params.default.tickCost 0x27 true = 4 ∧
    let a := (s.reg .a).toNat
    let f := s.cpu.flags
    let adj := (if f.h ∨ (f.n = false ∧ a % 16 > 9) then 6 else 0) +
      (if f.c ∨ (f.n = false ∧ a > 0x99) then 0x60 else 0)
    let v : Byte := BitVec.ofNat 8 (if f.n then (a + 256 - adj) % 256 else (a + adj) % 256)
    exec .daa s = .next (((s.setReg .a v).setFlags
      { z := decide (v = 0), n := f.n, h := false
        c := f.c || (!f.n && decide (a > 0x99)) }).tick (s.cost 0x27 true))

/-- CPL (0x2F) complements A and sets N and H; SCF (0x37) sets C, CCF (0x3F) complements it, both clear N and H; the
other flags and everything else stay; 4 ticks. (Encodings and ticks are the decisions D1 and D14 of the spec
itself. The ticks are those of the OPEN parameter TickCost; the numbers are its default: log 11, log 30.)
(42_alu8.md R200, 42_alu8.md R201, 42_alu8.md R202) -/
def Obligations.ComplementCarry : Prop :=
  ∀ (s : State),
    let d := Config.Params.default.tickCost
    encode .cpl = [0x2F] ∧ encode .scf = [0x37] ∧ encode .ccf = [0x3F] ∧
    (d 0x2F true = 4 ∧ d 0x37 true = 4 ∧ d 0x3F true = 4) ∧
    exec .cpl s = .next (((s.setReg .a (~~~(s.reg .a))).setFlags { s.cpu.flags with n := true, h := true }).tick
      (s.cost 0x2F true)) ∧
    exec .scf s = .next ((s.setFlags { s.cpu.flags with n := false, h := false, c := true }).tick (s.cost 0x37 true)) ∧
    exec .ccf s = .next ((s.setFlags { s.cpu.flags with n := false, h := false, c := !s.cpu.flags.c }).tick
      (s.cost 0x3F true))

/-- INC rp is 0x03 + 16 p, DEC rp is 0x0B + 16 p: the pair moves by one modulo 65536, no flag changes, 8 ticks. ADD
HL,rp is 0x09 + 16 p: HL is the sum modulo 65536, N is 0, H is a carry out of bit 11, C a carry out of bit 15, Z
is unchanged, 8 ticks. Nothing else changes. (Encodings and ticks are the decisions D1 and D14 of the spec
itself. The ticks are those of the OPEN parameter TickCost; the numbers are its default: log 11, log 30.)
(43_alu16.md R206, 43_alu16.md R207, 43_alu16.md R208) -/
def Obligations.PairArithmetic : Prop :=
  ∀ (p : Pair) (s : State),
    let d := Config.Params.default.tickCost
    encode (.incPair p) = [BitVec.ofNat 8 (0x03 + 16 * p.code)] ∧
    encode (.decPair p) = [BitVec.ofNat 8 (0x0B + 16 * p.code)] ∧
    (d (0x03 + 16 * p.code) true = 8 ∧ d (0x0B + 16 * p.code) true = 8 ∧ d (0x09 + 16 * p.code) true = 8) ∧
    exec (.incPair p) s = .next ((s.setPair p (s.pair p + 1)).tick (s.cost (0x03 + 16 * p.code) true)) ∧
    exec (.decPair p) s = .next ((s.setPair p (s.pair p - 1)).tick (s.cost (0x0B + 16 * p.code) true)) ∧
    encode (.addHlPair p) = [BitVec.ofNat 8 (0x09 + 16 * p.code)] ∧
    exec (.addHlPair p) s = .next
      (((s.setStackPair .hl (BitVec.ofNat 16 ((s.hl.toNat + (s.pair p).toNat) % 65536))).setFlags
        { s.cpu.flags with
          n := false, h := decide (s.hl.toNat % 4096 + (s.pair p).toNat % 4096 > 0x0FFF)
          c := decide (s.hl.toNat + (s.pair p).toNat > 0xFFFF) }).tick
        (s.cost (0x09 + 16 * p.code) true))

/-- ADD SP,e (0xE8 e, 16 ticks) and LD HL,SP+e (0xF8 e, 12 ticks) form SP plus the sign-extended byte modulo 65536;
Z and N are 0, H and C come from adding the unsigned byte to the low byte of SP; nothing else changes.
(Encodings and ticks are the decisions D1 and D14 of the spec itself. The ticks are those of the OPEN parameter
TickCost; the numbers are its default: log 11, log 30.) (43_alu16.md R209, 43_alu16.md R210) -/
def Obligations.AddDisplacement : Prop :=
  ∀ (e : Byte) (s : State),
    let sum : Word := BitVec.ofInt 16 ((s.cpu.sp.toNat : Int) + e.toInt)
    let f : Flags := { z := false, n := false, h := decide (s.cpu.sp.toNat % 16 + e.toNat % 16 > 0xF)
                       c := decide (s.cpu.sp.toNat % 256 + e.toNat > 0xFF) }
    encode (.add_sp_e e) = [0xE8, e] ∧ encode (.ld_hl_sp_e e) = [0xF8, e] ∧
    (Config.Params.default.tickCost 0xE8 true = 16 ∧ Config.Params.default.tickCost 0xF8 true = 12) ∧
    exec (.add_sp_e e) s = .next (((s.setSp sum).setFlags f).tick (s.cost 0xE8 true)) ∧
    exec (.ld_hl_sp_e e) s = .next (((s.setStackPair .hl sum).setFlags f).tick (s.cost 0xF8 true))

/-- Bit i of the result and the new carry of RLC, RRC, RL, RR, SLA, SRA, SRL and SWAP, given bit by bit; Z is that
the result is 0, N and H are 0; the compact forms give the same byte and carry with Z clear. (The results and
flags are the decision D2 of the spec itself.) (44_rotate_shift.md R214, 44_rotate_shift.md R215,
44_rotate_shift.md R216, 44_rotate_shift.md R217, 44_rotate_shift.md R218, 44_rotate_shift.md R219,
44_rotate_shift.md R220, 44_rotate_shift.md R221, 44_rotate_shift.md R222, 44_rotate_shift.md R223,
44_rotate_shift.md R224, 44_rotate_shift.md R225) -/
def Obligations.RotateResult : Prop :=
  ∀ (v : Byte) (f : Flags) (i : Nat), i < 8 →
    let bit : Nat → Bool := fun k => v.getLsbD k
    (rot .rlc v f).1.getLsbD i = bit ((i + 7) % 8) ∧ (rot .rlc v f).2.c = bit 7 ∧
    (rot .rrc v f).1.getLsbD i = bit ((i + 1) % 8) ∧ (rot .rrc v f).2.c = bit 0 ∧
    (rot .rl v f).1.getLsbD i = (if i = 0 then f.c else bit (i - 1)) ∧ (rot .rl v f).2.c = bit 7 ∧
    (rot .rr v f).1.getLsbD i = (if i = 7 then f.c else bit (i + 1)) ∧ (rot .rr v f).2.c = bit 0 ∧
    (rot .sla v f).1.getLsbD i = (if i = 0 then false else bit (i - 1)) ∧ (rot .sla v f).2.c = bit 7 ∧
    (rot .sra v f).1.getLsbD i = (if i = 7 then bit 7 else bit (i + 1)) ∧ (rot .sra v f).2.c = bit 0 ∧
    (rot .srl v f).1.getLsbD i = (if i = 7 then false else bit (i + 1)) ∧ (rot .srl v f).2.c = bit 0 ∧
    (rot .swap v f).1.getLsbD i = bit ((i + 4) % 8) ∧ (rot .swap v f).2.c = false ∧
    ∀ op : RotOp,
      (rot op v f).2 = { z := decide ((rot op v f).1 = 0), n := false, h := false, c := (rot op v f).2.c } ∧
      rotA op v f = ((rot op v f).1, { z := false, n := false, h := false, c := (rot op v f).2.c })

/-- A secondary-map rotate, shift or SWAP of a register is 0xCB, 8 k + r, 8 ticks; of the byte at HL 0xCB, 8 k + 6:
read, computed, written back, then the flags, 16 ticks, a refused access recorded with the flags as they were;
RLCA, RRCA, RLA, RRA are 0x07, 0x0F, 0x17, 0x1F, 4 ticks; nothing else changes. (Encodings and ticks are the
decisions D1 and D14 of the spec itself. The ticks are those of the OPEN parameter TickCost; the numbers are its
default: log 11, log 30.) (44_rotate_shift.md R213, 44_rotate_shift.md R214, R215, R216, R217,
44_rotate_shift.md R218, R219, R220, R221, 44_rotate_shift.md R222, R223, R224, R225) -/
def Obligations.RotateForms : Prop :=
  ∀ (op : RotOp) (r : Reg8) (s : State),
    let d := Config.Params.default.tickCostSecondary
    encode (.rotReg op r) = [0xCB, BitVec.ofNat 8 (8 * op.code + r.code)] ∧
    encode (.rotMem op) = [0xCB, BitVec.ofNat 8 (8 * op.code + 6)] ∧
    (d (8 * op.code + r.code) = 8 ∧ d (8 * op.code + 6) = 16) ∧
    exec (.rotReg op r) s = .next (((s.setReg r (rot op (s.reg r) s.cpu.flags).1).setFlags
      (rot op (s.reg r) s.cpu.flags).2).tick (s.costSecondary (8 * op.code + r.code))) ∧
    (∀ v b c, s.bus.read s.hl = .ok v b → b.write s.hl (rot op v s.cpu.flags).1 = .ok () c →
      exec (.rotMem op) s = .next (((s.setBus c).setFlags (rot op v s.cpu.flags).2).tick
        (s.costSecondary (8 * op.code + 6)))) ∧
    (∀ x b, s.bus.read s.hl = .fatal x b → exec (.rotMem op) s = .next ((s.setBus b).raise (.cartridgeAccess x))) ∧
    (∀ v x b c, s.bus.read s.hl = .ok v b → b.write s.hl (rot op v s.cpu.flags).1 = .fatal x c →
      exec (.rotMem op) s = .next ((s.setBus c).raise (.cartridgeAccess x))) ∧
    (encode .rlca = [0x07] ∧ encode .rrca = [0x0F] ∧ encode .rla = [0x17] ∧ encode .rra = [0x1F]) ∧
    ∀ f : Instr × RotOp × Nat, f ∈ ([(.rlca, .rlc, 0x07), (.rrca, .rrc, 0x0F), (.rla, .rl, 0x17), (.rra, .rr, 0x1F)] :
        List (Instr × RotOp × Nat)) →
      Config.Params.default.tickCost f.2.2 true = 4 ∧
      exec f.1 s = .next (((s.setReg .a (rotA f.2.1 (s.reg .a) s.cpu.flags).1).setFlags
        (rotA f.2.1 (s.reg .a) s.cpu.flags).2).tick (s.cost f.2.2 true))

/-- BIT is 0xCB, 0x40 + 8 b + operand code: Z is that the bit is 0, N is 0, H is 1, C unchanged; no register and no
byte is written; 8 ticks on a register, 12 on (HL), where a refused read is recorded. (Encodings and ticks are
the decisions D1 and D14 of the spec itself. The ticks are those of the OPEN parameter TickCost; the numbers are
its default: log 11, log 30.) (45_bit.md R236, 45_bit.md R237) -/
def Obligations.BitTest : Prop :=
  ∀ (k : Fin 8) (r : Reg8) (s : State),
    let d := Config.Params.default.tickCostSecondary
    encode (.bitReg k r) = [0xCB, BitVec.ofNat 8 (0x40 + 8 * k.val + r.code)] ∧
    encode (.bitMem k) = [0xCB, BitVec.ofNat 8 (0x40 + 8 * k.val + 6)] ∧
    (d (0x40 + 8 * k.val + r.code) = 8 ∧ d (0x40 + 8 * k.val + 6) = 12) ∧
    exec (.bitReg k r) s = .next ((s.setFlags
      { s.cpu.flags with z := !(s.reg r).getLsbD k.val, n := false, h := true }).tick
      (s.costSecondary (0x40 + 8 * k.val + r.code))) ∧
    (∀ v b, s.bus.read s.hl = .ok v b →
      exec (.bitMem k) s = .next (((s.setBus b).setFlags
        { s.cpu.flags with z := !v.getLsbD k.val, n := false, h := true }).tick
        (s.costSecondary (0x40 + 8 * k.val + 6)))) ∧
    (∀ x b, s.bus.read s.hl = .fatal x b → exec (.bitMem k) s = .next ((s.setBus b).raise (.cartridgeAccess x)))

/-- SET is 0xCB, 0xC0 + 8 b + operand code, RES is 0xCB, 0x80 + 8 b + operand code: the bit is set or cleared in the
register (8 ticks) or in the byte at HL, which is read and written back (16 ticks, also where the bit was so
already); no flag changes; a refused access is recorded. (Encodings and ticks are the decisions D1 and D14 of
the spec itself. The ticks are those of the OPEN parameter TickCost; the numbers are its default: log 11, log
30.) (45_bit.md R238, 45_bit.md R239, 45_bit.md R240, 45_bit.md R241) -/
def Obligations.SetResetBit : Prop :=
  ∀ (k : Fin 8) (r : Reg8) (s : State),
    let d := Config.Params.default.tickCostSecondary
    (encode (.setReg k r) = [0xCB, BitVec.ofNat 8 (0xC0 + 8 * k.val + r.code)] ∧
      encode (.setMem k) = [0xCB, BitVec.ofNat 8 (0xC0 + 8 * k.val + 6)] ∧
      encode (.resReg k r) = [0xCB, BitVec.ofNat 8 (0x80 + 8 * k.val + r.code)] ∧
      encode (.resMem k) = [0xCB, BitVec.ofNat 8 (0x80 + 8 * k.val + 6)]) ∧
    ∀ f : Instr × Instr × (Byte → Byte) × Nat,
      f ∈ ([(.setReg k r, .setMem k, fun v => v ||| (1#8 <<< k.val), 0xC0 + 8 * k.val),
            (.resReg k r, .resMem k, fun v => v &&& ~~~(1#8 <<< k.val), 0x80 + 8 * k.val)] :
        List (Instr × Instr × (Byte → Byte) × Nat)) →
      (d (f.2.2.2 + r.code) = 8 ∧ d (f.2.2.2 + 6) = 16) ∧
      exec f.1 s = .next ((s.setReg r (f.2.2.1 (s.reg r))).tick (s.costSecondary (f.2.2.2 + r.code))) ∧
      (∀ v b c, s.bus.read s.hl = .ok v b → b.write s.hl (f.2.2.1 v) = .ok () c →
        exec f.2.1 s = .next ((s.setBus c).tick (s.costSecondary (f.2.2.2 + 6)))) ∧
      (∀ x b, s.bus.read s.hl = .fatal x b → exec f.2.1 s = .next ((s.setBus b).raise (.cartridgeAccess x))) ∧
      (∀ v x b c, s.bus.read s.hl = .ok v b → b.write s.hl (f.2.2.1 v) = .fatal x c →
        exec f.2.1 s = .next ((s.setBus c).raise (.cartridgeAccess x)))

/-- The jumps with their encodings: JP nn 16 ticks, JP cc,nn 16 taken and 12 not, JP HL 4, JR e 12, JR cc,e 12 taken
and 8 not; a relative target is counted from the byte after the displacement, which PC points at; a jump not
taken leaves PC; nothing else changes. (Encodings and ticks are the decisions D1 and D14 of the spec itself. The
ticks are those of the OPEN parameter TickCost; the numbers are its default: log 11, log 30.) (46_control.md
R244, 46_control.md R245, 46_control.md R246, 46_control.md R247, 46_control.md R248, 46_control.md R249) -/
def Obligations.Jumps : Prop :=
  ∀ (nn : Word) (e : Byte) (s : State),
    let d := Config.Params.default.tickCost
    (encode (.jp_nn nn) = [0xC3, loByte nn, hiByte nn] ∧ encode .jp_hl = [0xE9] ∧ encode (.jr_e e) = [0x18, e]) ∧
    (d 0xC3 true = 16 ∧ d 0xE9 true = 4 ∧ d 0x18 true = 12) ∧
    exec (.jp_nn nn) s = .next ((s.setPc nn).tick (s.cost 0xC3 true)) ∧
    exec .jp_hl s = .next ((s.setPc s.hl).tick (s.cost 0xE9 true)) ∧
    exec (.jr_e e) s = .next ((s.setPc (s.cpu.pc + e.signExtend 16)).tick (s.cost 0x18 true)) ∧
    ∀ cc : Cond,
      let taken := match cc with
        | .nz => !s.cpu.flags.z
        | .z => s.cpu.flags.z
        | .nc => !s.cpu.flags.c
        | .c => s.cpu.flags.c
      let jp := 0xC2 + 8 * cc.code
      let jr := 0x20 + 8 * cc.code
      (d jp true = 16 ∧ d jp false = 12 ∧ d jr true = 12 ∧ d jr false = 8) ∧
      encode (.jpCond cc nn) = [BitVec.ofNat 8 jp, loByte nn, hiByte nn] ∧
      encode (.jrCond cc e) = [BitVec.ofNat 8 jr, e] ∧
      exec (.jpCond cc nn) s = .next (if taken then (s.setPc nn).tick (s.cost jp true) else s.tick (s.cost jp false)) ∧
      exec (.jrCond cc e) s = .next (if taken then (s.setPc (s.cpu.pc + e.signExtend 16)).tick (s.cost jr true)
        else s.tick (s.cost jr false))

/-- A call pushes PC, which points past the whole instruction (high byte at SP - 1, then low byte at SP - 2), and
goes to its target: CALL nn 24 ticks, CALL cc,nn 24 taken and 12 not (then nothing is pushed), RST t 16 ticks to
8 y; a refused push leaves PC and the decrements of SP done. (Encodings and ticks are the decisions D1 and D14
of the spec itself. The ticks are those of the OPEN parameter TickCost; the numbers are its default: log 11, log
30.) (46_control.md R250, 46_control.md R251, 46_control.md R257) -/
def Obligations.Calls : Prop :=
  ∀ (nn : Word) (cc : Cond) (y : Fin 8) (s : State),
    let d := Config.Params.default.tickCost
    (encode (.call_nn nn) = [0xCD, loByte nn, hiByte nn] ∧
      encode (.callCond cc nn) = [BitVec.ofNat 8 (0xC4 + 8 * cc.code), loByte nn, hiByte nn] ∧
      encode (.rst y) = [BitVec.ofNat 8 (0xC7 + 8 * y.val)]) ∧
    (d (0xC4 + 8 * cc.code) false = 12) ∧
    (condHolds cc s.cpu.flags = false → exec (.callCond cc nn) s = .next (s.tick (s.cost (0xC4 + 8 * cc.code) false))) ∧
    ∀ f : Instr × Word × Bool × Nat × Nat,
      f ∈ ([(.call_nn nn, nn, true, 0xCD, 24),
            (.callCond cc nn, nn, condHolds cc s.cpu.flags, 0xC4 + 8 * cc.code, 24),
            (.rst y, BitVec.ofNat 16 (8 * y.val), true, 0xC7 + 8 * y.val, 16)] :
        List (Instr × Word × Bool × Nat × Nat)) →
      d f.2.2.2.1 true = f.2.2.2.2 ∧ (f.2.2.1 = true →
      (∀ b c, s.bus.write (s.cpu.sp - 1) (hiByte s.cpu.pc) = .ok () b →
        b.write (s.cpu.sp - 2) (loByte s.cpu.pc) = .ok () c →
        exec f.1 s = .next ((((s.setBus c).setSp (s.cpu.sp - 2)).setPc f.2.1).tick (s.cost f.2.2.2.1 true))) ∧
      (∀ x b, s.bus.write (s.cpu.sp - 1) (hiByte s.cpu.pc) = .fatal x b →
        exec f.1 s = .next (((s.setBus b).setSp (s.cpu.sp - 1)).raise (.cartridgeAccess x))) ∧
      (∀ x b c, s.bus.write (s.cpu.sp - 1) (hiByte s.cpu.pc) = .ok () b →
        b.write (s.cpu.sp - 2) (loByte s.cpu.pc) = .fatal x c →
        exec f.1 s = .next (((s.setBus c).setSp (s.cpu.sp - 2)).raise (.cartridgeAccess x))))

/-- A return reads PC from the stack, low byte at SP, high byte at SP + 1, and leaves SP two higher: RET 16 ticks,
RET cc 20 taken and 8 not (then no memory is read), RETI 16 and IME set; a refused read leaves PC and IME and
the increments of SP done. (Encodings and ticks are the decisions D1 and D14 of the spec itself. The ticks are
those of the OPEN parameter TickCost; the numbers are its default: log 11, log 30.) (46_control.md R252,
46_control.md R253, 46_control.md R254) -/
def Obligations.Returns : Prop :=
  ∀ (cc : Cond) (s : State),
    let d := Config.Params.default.tickCost
    (encode .ret = [0xC9] ∧ encode (.retCond cc) = [BitVec.ofNat 8 (0xC0 + 8 * cc.code)] ∧ encode .reti = [0xD9]) ∧
    (d (0xC0 + 8 * cc.code) false = 8) ∧
    (condHolds cc s.cpu.flags = false → exec (.retCond cc) s = .next (s.tick (s.cost (0xC0 + 8 * cc.code) false))) ∧
    ∀ f : Instr × Bool × Bool × Nat × Nat,
      f ∈ ([(.ret, s.cpu.ime, true, 0xC9, 16),
            (.retCond cc, s.cpu.ime, condHolds cc s.cpu.flags, 0xC0 + 8 * cc.code, 20),
            (.reti, true, true, 0xD9, 16)] : List (Instr × Bool × Bool × Nat × Nat)) →
      d f.2.2.2.1 true = f.2.2.2.2 ∧ (f.2.2.1 = true →
      (∀ l h b c, s.bus.read s.cpu.sp = .ok l b → b.read (s.cpu.sp + 1) = .ok h c →
        exec f.1 s = .next
          (((((s.setBus c).setSp (s.cpu.sp + 2)).setPc (word h l)).setIme f.2.1).tick (s.cost f.2.2.2.1 true))) ∧
      (∀ x b, s.bus.read s.cpu.sp = .fatal x b → exec f.1 s = .next ((s.setBus b).raise (.cartridgeAccess x))) ∧
      (∀ l x b c, s.bus.read s.cpu.sp = .ok l b → b.read (s.cpu.sp + 1) = .fatal x c →
        exec f.1 s = .next (((s.setBus c).setSp (s.cpu.sp + 1)).raise (.cartridgeAccess x))))

/-- NOP (0x00) does nothing, STOP (0x10 n) sets stopped whatever n is, DI (0xF3) clears IME, EI (0xFB) sets it at
once; 4 ticks each; nothing else changes. (Encodings and ticks are the decisions D1 and D14 of the spec itself.
The ticks are those of the OPEN parameter TickCost; the numbers are its default: log 11, log 30.) (47_system.md
R259, 47_system.md R262, 47_system.md R263, 47_system.md R264) -/
def Obligations.SystemInstructions : Prop :=
  ∀ (n : Byte) (s : State),
    let d := Config.Params.default.tickCost
    (encode .nop = [0x00] ∧ encode (.stop n) = [0x10, n] ∧ encode .di = [0xF3] ∧ encode .ei = [0xFB]) ∧
    (d 0x00 true = 4 ∧ d 0x10 true = 4 ∧ d 0xF3 true = 4 ∧ d 0xFB true = 4) ∧
    exec .nop s = .next (s.tick (s.cost 0x00 true)) ∧
    exec (.stop n) s = .next ((s.setStopped true).tick (s.cost 0x10 true)) ∧
    exec .di s = .next ((s.setIme false).tick (s.cost 0xF3 true)) ∧
    exec .ei s = .next ((s.setIme true).tick (s.cost 0xFB true))

/-- HALT is 0x76. Where IME is 0 and no source is pending and enabled it arms skip_inc, and sets halted only where
the OPEN parameter HaltWithIME0Halts is true; otherwise it sets halted. 4 ticks; nothing else changes. (The
default of the parameter is true: log 12.) (Encodings and ticks are the decisions D1 and D14 of the spec itself.
The ticks are those of the OPEN parameter TickCost; the numbers are its default: log 11, log 30.) (That HALT
halts beside the quirk is the decision D15 of the spec itself.) (47_system.md R261) -/
def Obligations.HaltInstruction : Prop :=
  ∀ (s : State), encode .halt = [0x76] ∧ Config.Params.default.tickCost 0x76 true = 4 ∧
    Config.Params.default.haltWithIme0Halts = true ∧
    let quirk := !s.cpu.ime && decide (s.bus.io.ie.extractLsb' 0 5 &&& s.bus.io.ifl = 0)
    exec .halt s = .next ((if quirk then
        if s.bus.cfg.haltWithIme0Halts then (s.setHalted true).setSkipInc true else s.setSkipInc true
      else s.setHalted true).tick (s.cost 0x76 true))

/-- Loads into registers, pops, arithmetic and logic on A, register increments, pair arithmetic, register rotates,
BIT, register SET and RES, jumps, returns and the system instructions leave every address reading as before,
whatever happens in them. (40_load8.md, 41_load16_stack.md, 42_alu8.md, 43_alu16.md, 44_rotate_shift.md,
45_bit.md, 46_control.md, 47_system.md) -/
def Obligations.NonStoringFrame : Prop :=
  ∀ (dst r : Reg8) (p : Pair) (q : StackPair) (op : AluOp) (ro : RotOp) (k : Fin 8) (cc : Cond) (n : Byte) (nn : Word)
    (s t : State) (x : Word) (i : Instr),
    i ∈ ([.ldRegReg dst r, .ldRegImm dst n, .ldRegMem dst, .ld_a_mbc, .ld_a_mde, .ld_a_mnn nn, .ldh_a_mc, .ldh_a_mn n,
      .ld_a_mhli, .ld_a_mhld, .ldPairImm p nn, .ld_sp_hl, .popPair q, .pop_af, .aluReg op r, .aluMem op, .aluImm op n,
      .incReg r, .decReg r, .daa, .cpl, .scf, .ccf, .incPair p, .decPair p, .addHlPair p, .add_sp_e n, .ld_hl_sp_e n,
      .rlca, .rrca, .rla, .rra, .rotReg ro r, .bitReg k r, .bitMem k, .setReg k r, .resReg k r,
      .jp_nn nn, .jpCond cc nn, .jp_hl, .jr_e n, .jrCond cc n, .ret, .retCond cc, .reti,
      .nop, .halt, .stop n, .di, .ei, .illegal n] : List Instr) →
    exec i s = .next t → t.bus.peek x = s.bus.peek x

/-- For every instruction that stores one byte, the address is computed as its meaning computes it (HL, BC, DE, nn,
0xFF00 + C, 0xFF00 + n), and every address that a store there does not reach reads as before, whatever happens
in the instruction. (40_load8.md, 42_alu8.md, 44_rotate_shift.md, 45_bit.md, 20_memory.md) -/
def Obligations.StoringFrame : Prop :=
  ∀ (r : Reg8) (ro : RotOp) (k : Fin 8) (n : Byte) (nn : Word) (s t : State) (x : Word) (f : Instr × Word),
    f ∈ ([(.ldMemReg r, s.hl), (.ld_mhl_n n, s.hl), (.ld_mbc_a, s.stackPair .bc), (.ld_mde_a, s.stackPair .de),
      (.ld_mnn_a nn, nn), (.ldh_mc_a, highPage (s.reg .c)), (.ldh_mn_a n, highPage n), (.ld_mhli_a, s.hl),
      (.ld_mhld_a, s.hl), (.inc_mhl, s.hl), (.dec_mhl, s.hl), (.rotMem ro, s.hl), (.setMem k, s.hl),
      (.resMem k, s.hl)] : List (Instr × Word)) →
    exec f.1 s = .next t → s.bus.storeReaches f.2 x = false → t.bus.peek x = s.bus.peek x

/-- For PUSH, CALL, RST and LD (nn),SP, which store two bytes in order at addresses computed as their meanings
compute them, every address that neither store reaches reads as before (what the second store reaches being
judged after the first), whatever happens in the instruction. (41_load16_stack.md, 46_control.md, 20_memory.md) -/
def Obligations.StackFrame : Prop :=
  ∀ (q : StackPair) (cc : Cond) (y : Fin 8) (nn : Word) (s t : State) (x : Word) (f : Instr × Word × Word × Byte),
    f ∈ ([(.pushPair q, s.cpu.sp - 1, s.cpu.sp - 2, hiByte (s.stackPair q)),
      (.push_af, s.cpu.sp - 1, s.cpu.sp - 2, hiByte s.af),
      (.call_nn nn, s.cpu.sp - 1, s.cpu.sp - 2, hiByte s.cpu.pc),
      (.callCond cc nn, s.cpu.sp - 1, s.cpu.sp - 2, hiByte s.cpu.pc),
      (.rst y, s.cpu.sp - 1, s.cpu.sp - 2, hiByte s.cpu.pc),
      (.ld_mnn_sp nn, nn, nn + 1, loByte s.cpu.sp)] : List (Instr × Word × Word × Byte)) →
    exec f.1 s = .next t → s.bus.storeReaches f.2.1 x = false →
    (s.bus.written f.2.1 f.2.2.2).storeReaches f.2.2.1 x = false → t.bus.peek x = s.bus.peek x

/-- In video RAM, work RAM, OAM and high RAM (and the mirror of work RAM, and IE) a write always succeeds, the byte
reads back at that address, a read has no side effect, and every address the write does not reach reads as
before. For an address from 0xE000 to 0xFDFF, reading it and writing it are reading and writing the address
0x2000 lower, which is work RAM. (The addresses and the extent of the mirror are the decisions D9 and D45 of the
spec itself; video RAM and OAM are always open: D49.) (20_memory.md R51, 20_memory.md R54, 20_memory.md R57,
20_memory.md R69, 20_memory.md R74) -/
def Obligations.PlainMemory : Prop :=
  (∀ (b : Bus) (a : Word) (v : Byte),
    (0x8000 ≤ a.toNat ∧ a.toNat < 0xA000) ∨ (0xC000 ≤ a.toNat ∧ a.toNat < 0xFEA0) ∨ 0xFF80 ≤ a.toNat →
    ∃ c, b.write a v = .ok () c ∧ c.read a = .ok v c ∧ b.read a = .ok (b.value a) b ∧
      ∀ x, b.storeReaches a x = false → c.peek x = b.peek x) ∧
  (∀ (b : Bus) (a : Word) (v : Byte), 0xE000 ≤ a.toNat → a.toNat ≤ 0xFDFF →
    b.read a = b.read (a - 0x2000) ∧ b.write a v = b.write (a - 0x2000) v ∧
    b.read a = .ok (b.wram.read (a.toNat - 0xE000)) b)

/-- From 0xFEA0 to 0xFEFF, and at an I/O address without a register, a read gives the next draw, whatever it is, and
takes it; a write changes nothing. The statement rests on no value of the draw (log 7). (Which addresses have no
owner and what they do is the decision D11 of the spec itself.) (20_memory.md R58, 20_memory.md R79, 10_state.md
R39) -/
def Obligations.UnmappedAddresses : Prop :=
  ∀ (b : Bus) (a : Word) (v : Byte),
    (0xFEA0 ≤ a.toNat ∧ a.toNat < 0xFF00) ∨ a.toNat ∈
      ([0xFF03, 0xFF08, 0xFF09, 0xFF0A, 0xFF0B, 0xFF0C, 0xFF0D, 0xFF0E, 0xFF15, 0xFF1F, 0xFF27, 0xFF28, 0xFF29,
        0xFF2A, 0xFF2B, 0xFF2C, 0xFF2D, 0xFF2E, 0xFF2F] : List Nat) ∨ (0xFF4C ≤ a.toNat ∧ a.toNat < 0xFF80) →
    b.read a = .ok (Config.freeByte b.draws) { b with draws := b.draws + 1 } ∧ b.write a v = .ok () b

/-- A read below 0x4000 gives the image byte at that offset, a read from 0x4000 to 0x7FFF the byte of the effective
bank, which is 1 on Plain, hi2:low5 or low5 alone on variant 1 by its mode, the bank register on variants 2 and
3; an offset past the image is fatal with the address; nothing is changed. (The composition of the bank and the
policy past the image are the decisions D22 and D25 of the spec itself.) (20_memory.md R93, 20_memory.md R108) -/
def Obligations.CartridgeWindows : Prop :=
  ∀ (b : Bus) (a : Word), a.toNat < 0x8000 →
    let bank : Nat := match b.cart.ctl with
      | .plain => 1
      | .bank1 st => if st.bankMode then st.low5.toNat else (st.hi2 ++ st.low5).toNat
      | .bank2 st => st.romBank.toNat
      | .bank3 st => st.romBank.toNat
    let offset : Nat := if a.toNat < 0x4000 then a.toNat else bank * 0x4000 + (a.toNat - 0x4000)
    b.read a = if offset < b.cart.romLen then .ok (b.cart.rom.read offset) b else .fatal a b

/-- A write below 0x8000 never fails. Plain ignores it; variant 1 ignores 0x0000 to 0x1FFF, sets low5 (0 becomes 1)
at 0x2000 to 0x3FFF, hi2 at 0x4000 to 0x5FFF, bank_mode at 0x6000 to 0x7FFF; variant 2 sets rom_bank at 0x2000
to 0x3FFF, 0 allowed, and ignores the rest. Nothing but that register changes. Variant 3 sets ram_enable (0xA in
the low nibble) at 0x0000 to 0x1FFF, rom_bank (0 becomes 1) at 0x2000 to 0x3FFF, ram_bank at 0x4000 to 0x5FFF;
at 0x6000 to 0x7FFF it sets the latch register, and takes a clock snapshot exactly when 0x01 is written over
0x00. The snapshot is a draw, of which only the ranges are known (log 9). (The register ranges and fields are
the decisions D21 to D24 of the spec itself.) (20_memory.md R95, 20_memory.md R97, 20_memory.md R98,
20_memory.md R103, 20_memory.md R107, 20_memory.md R109) -/
def Obligations.ControlRegisters : Prop :=
  (∀ (b : Bus) (a : Word) (v : Byte), a.toNat < 0x8000 →
    (b.cart.ctl = .plain → b.write a v = .ok () b) ∧
    (∀ st, b.cart.ctl = .bank1 st →
      let st' : Bank1 :=
        if a.toNat < 0x2000 then st
        else if a.toNat < 0x4000 then { st with low5 := if v.extractLsb' 0 5 = 0 then 1 else v.extractLsb' 0 5 }
        else if a.toNat < 0x6000 then { st with hi2 := v.extractLsb' 0 2 }
        else { st with bankMode := v.getLsbD 0 }
      b.write a v = .ok () { b with cart := { b.cart with ctl := .bank1 st' } }) ∧
    (∀ st, b.cart.ctl = .bank2 st →
      let st' : Bank2 :=
        if 0x2000 ≤ a.toNat ∧ a.toNat < 0x4000 then { st with romBank := v.extractLsb' 0 4 } else st
      b.write a v = .ok () { b with cart := { b.cart with ctl := .bank2 st' } })) ∧
  (∀ (b : Bus) (a : Word) (v : Byte) (st : Bank3), a.toNat < 0x8000 → b.cart.ctl = .bank3 st →
    ∃ (st' : Bank3) (n : Nat), b.write a v = .ok () { b with cart := { b.cart with ctl := .bank3 st' }, draws := n } ∧
      (a.toNat < 0x2000 → st' = { st with ramEnable := decide (v.extractLsb' 0 4 = 0xA#4) } ∧ n = b.draws) ∧
      (0x2000 ≤ a.toNat → a.toNat < 0x4000 →
        st' = { st with romBank := if v.extractLsb' 0 7 = 0 then 1 else v.extractLsb' 0 7 } ∧ n = b.draws) ∧
      (0x4000 ≤ a.toNat → a.toNat < 0x6000 → st' = { st with ramBank := v } ∧ n = b.draws) ∧
      (0x6000 ≤ a.toNat → ¬(st.latchReg = 0x00 ∧ v = 0x01) → st' = { st with latchReg := v } ∧ n = b.draws) ∧
      (0x6000 ≤ a.toNat → st.latchReg = 0x00 → v = 0x01 →
        st' = { st with latchReg := 0x01, rtc := st'.rtc } ∧ st'.rtc.seconds.toNat < 60 ∧
        st'.rtc.minutes.toNat < 60 ∧ st'.rtc.hours.toNat < 24))

/-- At 0xA000 to 0xBFFF: Plain refuses a read and ignores a write; variant 1 reads and writes RAM of bank hi2 in RAM
mode, else of bank 0; variant 2 has 512 bytes of which the low nibble is kept, the rest is refused; variant 3
reads 0xFF and ignores writes while disabled, else reads and writes the RAM bank 0 to 3 or the clock field 8 to
12 selected, any other selection being refused. (The bank rules and the disabled reads are the decisions D22 to
D24 and D26 of the spec itself; that the upper nibble of variant 2 reads 0 is DEDUCED, log 22.) (20_memory.md
R95, 20_memory.md R94, 20_memory.md R99, 20_memory.md R100, 20_memory.md R104, 20_memory.md R110) -/
def Obligations.ExternalWindow : Prop :=
  ∀ (b : Bus) (a : Word) (v : Byte), 0xA000 ≤ a.toNat → a.toNat < 0xC000 →
    let o : Nat := a.toNat - 0xA000
    let ram : Nat → Byte → Prop := fun k w =>
      b.read a = .ok (b.cart.xram.read k) b ∧
      b.write a v = .ok () { b with cart := { b.cart with xram := b.cart.xram.write k w } }
    (b.cart.ctl = .plain → b.read a = .fatal a b ∧ b.write a v = .ok () b) ∧
    (∀ st, b.cart.ctl = .bank1 st → ram ((if st.bankMode then st.hi2.toNat else 0) * 0x2000 + o) v) ∧
    (∀ st, b.cart.ctl = .bank2 st →
      (o < 0x200 → b.read a = .ok (b.cart.xram.read o &&& 0x0F) b ∧
        b.write a v = .ok () { b with cart := { b.cart with xram := b.cart.xram.write o (v &&& 0x0F) } }) ∧
      (0x200 ≤ o → b.read a = .fatal a b ∧ b.write a v = .fatal a b)) ∧
    (∀ st, b.cart.ctl = .bank3 st →
      (st.ramEnable = false → b.read a = .ok 0xFF b ∧ b.write a v = .ok () b) ∧
      (st.ramEnable = true → st.ramBank.toNat < 4 → ram (st.ramBank.toNat * 0x2000 + o) v) ∧
      (st.ramEnable = true → 8 ≤ st.ramBank.toNat → st.ramBank.toNat ≤ 12 →
        b.read a = .ok (st.rtc.get (st.ramBank.toNat - 8)) b ∧
        b.write a v = .ok () { b with cart := { b.cart with
          ctl := .bank3 { st with rtc := st.rtc.set (st.ramBank.toNat - 8) v } } }) ∧
      (st.ramEnable = true → (4 ≤ st.ramBank.toNat ∧ st.ramBank.toNat < 8) ∨ 12 < st.ramBank.toNat →
        b.read a = .fatal a b ∧ b.write a v = .fatal a b))

/-- Whatever a Step does, the ROM image, its length, the kind of controller and the OPEN parameters of the machine
are what they were. (The fatal error of an access is recorded in a next state: log 6; that the machine carries
its OPEN parameters: log 30.) (10_state.md R41, 10_state.md R26, 20_memory.md R65) -/
def Obligations.RomIsImmutable : Prop :=
  ∀ (s t : State), step s = .next t →
    t.bus.cart.rom = s.bus.cart.rom ∧ t.bus.cart.romLen = s.bus.cart.romLen ∧ t.bus.cfg = s.bus.cfg ∧
    (match s.bus.cart.ctl, t.bus.cart.ctl with
      | .plain, .plain => True
      | .bank1 _, .bank1 _ => True
      | .bank2 _, .bank2 _ => True
      | .bank3 _, .bank3 _ => True
      | _, _ => False)

/-- The fixed bits and computed fields of P1, TAC, IF and STAT, and the stored byte of the others, as a read gives
them; only palette reads have a side effect, which is on the tile caches. (Addresses, layouts and fixed bits are
the decisions D10, D35, D36, D37 and D44 of the spec itself.) (20_memory.md R80, 20_memory.md R75, 20_memory.md
R71, 10_state.md R29, 10_state.md R31, 10_state.md R33) -/
def Obligations.IoReads : Prop :=
  ∀ (b : Bus),
    let p := b.pressed
    let low (dir act : Bool) : Bool := (!b.io.p1Sel.getLsbD 0 && dir) || (!b.io.p1Sel.getLsbD 1 && act)
    b.read 0xFF00 = .ok (0b11#2 ++ b.io.p1Sel ++ (BitVec.ofBool (!low p.down p.start) ++
      BitVec.ofBool (!low p.up p.select) ++ BitVec.ofBool (!low p.left p.b) ++ BitVec.ofBool (!low p.right p.a))) b ∧
    b.read 0xFF07 = .ok (0b11111#5 ++ b.io.tac) b ∧
    b.read 0xFF0F = .ok (0b111#3 ++ b.io.ifl) b ∧
    b.read 0xFF41 = .ok (0b1#1 ++ b.io.statEnable ++ BitVec.ofBool (decide (b.io.ly = b.io.lyc)) ++ b.io.mode) b ∧
    b.read 0xFF47 = .ok b.io.bgp { b with caches := { b.caches with bg := [], window := [] } } ∧
    b.read 0xFF48 = .ok b.io.obp0 { b with caches := { b.caches with sprite := [] } } ∧
    b.read 0xFF49 = .ok b.io.obp1 { b with caches := { b.caches with sprite := [] } } ∧
    (∀ f : Word × Byte, f ∈
      ([(0xFF01, b.io.sb), (0xFF02, b.io.sc), (0xFF04, b.io.div), (0xFF05, b.io.tima), (0xFF06, b.io.tma),
        (0xFF10, b.sregs.nr10), (0xFF11, b.sregs.nr11), (0xFF12, b.sregs.nr12), (0xFF13, b.sregs.nr13),
        (0xFF14, b.sregs.nr14), (0xFF16, b.sregs.nr21), (0xFF17, b.sregs.nr22), (0xFF18, b.sregs.nr23),
        (0xFF19, b.sregs.nr24), (0xFF1A, b.sregs.nr30), (0xFF1B, b.sregs.nr31), (0xFF1C, b.sregs.nr32),
        (0xFF1D, b.sregs.nr33), (0xFF1E, b.sregs.nr34), (0xFF20, b.sregs.nr41), (0xFF21, b.sregs.nr42),
        (0xFF22, b.sregs.nr43), (0xFF23, b.sregs.nr44), (0xFF24, b.sregs.nr50), (0xFF25, b.sregs.nr51),
        (0xFF26, b.sregs.nr52), (0xFF40, b.io.lcdc), (0xFF42, b.io.scy), (0xFF43, b.io.scx), (0xFF44, b.io.ly),
        (0xFF45, b.io.lyc), (0xFF46, b.io.dma), (0xFF4A, b.io.wy), (0xFF4B, b.io.wx), (0xFFFF, b.io.ie)] :
        List (Word × Byte)) → b.read f.1 = .ok f.2 b) ∧
    (∀ k : Fin 16, b.read (0xFF30 + BitVec.ofNat 16 k.val) = .ok (b.sregs.wave.read k.val) b)

/-- Writes to P1, SB, SC, DIV, TIMA, TMA, TAC, SCY, SCX, LY, LYC, WY, WX and the palette registers: what each
stores, what it clears, that LY ignores it, and that nothing else changes. (Addresses, layouts and what is not
writable are the decisions D10, D29, D30 and D43 of the spec itself; the shades are the OPEN parameter SHADE,
whose default is stated: log 14, log 30.) (20_memory.md R71, 20_memory.md R75, 20_memory.md R76, 20_memory.md
R77, 20_memory.md R78) -/
def Obligations.IoWrites : Prop :=
  ∀ (b : Bus) (v : Byte),
    let shades (v : Byte) : Palette := { c0 := b.cfg.shade (v.extractLsb' 0 2), c1 := b.cfg.shade (v.extractLsb' 2 2)
                                         c2 := b.cfg.shade (v.extractLsb' 4 2), c3 := b.cfg.shade (v.extractLsb' 6 2) }
    b.write 0xFF00 v = .ok () { b with io := { b.io with p1Sel := v.extractLsb' 4 2 } } ∧
    b.write 0xFF01 v = .ok () { b with io := { b.io with sb := v } } ∧
    b.write 0xFF02 v = .ok () { b with io := { b.io with sc := v } } ∧
    b.write 0xFF04 v = .ok () { b with io := { b.io with div := 0 }, drv := { b.drv with divAcc := 0 } } ∧
    b.write 0xFF05 v = .ok () { b with io := { b.io with tima := v } } ∧
    b.write 0xFF06 v = .ok () { b with io := { b.io with tma := v } } ∧
    b.write 0xFF07 v = .ok () { b with
      io := { b.io with tac := v.extractLsb' 0 3 }
      drv := { b.drv with
        timaAcc := if v.extractLsb' 0 2 = b.io.tac.extractLsb' 0 2 then b.drv.timaAcc else 0 } } ∧
    b.write 0xFF42 v = .ok () { b with io := { b.io with scy := v } } ∧
    b.write 0xFF43 v = .ok () { b with io := { b.io with scx := v } } ∧
    b.write 0xFF44 v = .ok () b ∧
    b.write 0xFF45 v = .ok () { b with io := { b.io with lyc := v } } ∧
    b.write 0xFF47 v = .ok () { b with io := { b.io with bgp := v }, pal := { b.pal with bg := shades v },
                                       caches := { b.caches with bg := [], window := [] } } ∧
    b.write 0xFF48 v = .ok () { b with io := { b.io with obp0 := v }, pal := { b.pal with obj0 := shades v },
                                       caches := { b.caches with sprite := [] } } ∧
    b.write 0xFF49 v = .ok () { b with io := { b.io with obp1 := v }, pal := { b.pal with obj1 := shades v },
                                       caches := { b.caches with sprite := [] } } ∧
    b.write 0xFF4A v = .ok () { b with io := { b.io with wy := v } } ∧
    b.write 0xFF4B v = .ok () { b with io := { b.io with wx := v } } ∧
    [0, 1, 2, 3].map Config.Params.default.shade = [0xFFFFFFFF, 0xFFAAAAAA, 0xFF555555, 0xFF000000]

/-- A write to LCDC stores all 8 bits and, where bit 6, 4 or 3 changes, sets every background and window dirty flag;
a write to STAT stores bits 6 to 3; a write to IF stores bits 4 to 0, a write to IE all 8 bits, and the next
check for a pending and enabled source sees the new values; nothing else changes. (R70, R74) -/
def Obligations.LcdAndInterruptWrites : Prop :=
  ∀ (b : Bus) (v : Byte),
    let change (k : Nat) : Bool := v.getLsbD k != b.io.lcdc.getLsbD k
    b.write 0xFF40 v = .ok () { b with
      io := { b.io with lcdc := v }
      caches := if change 6 || change 4 || change 3 then { b.caches with bg := [], window := [] } else b.caches } ∧
    b.write 0xFF41 v = .ok () { b with io := { b.io with statEnable := v.extractLsb' 3 4 } } ∧
    b.write 0xFF0F v = .ok () { b with io := { b.io with ifl := v.extractLsb' 0 5 } } ∧
    b.write 0xFFFF v = .ok () { b with io := { b.io with ie := v } } ∧
    (b.written 0xFF0F v).pending = b.io.ie.extractLsb' 0 5 &&& v.extractLsb' 0 5 ∧
    (b.written 0xFFFF v).pending = v.extractLsb' 0 5 &&& b.io.ifl

/-- Whatever is written wherever, LY, the LCD mode and the state of the buttons stay, the low bits of P1 stay what
the select lines and the buttons make them, STAT bit 2 stays whether LY is LYC, and the fixed bits of P1, IF,
STAT and TAC read 1. In the high page no read is refused and no write but one to DMA can be. (Which bits are
fixed or not writable are the decisions D43 and D44 of the spec itself.) (10_state.md R40, 20_memory.md R75,
20_memory.md R80) -/
def Obligations.ReadOnlyFields : Prop :=
  ∀ (b : Bus) (a : Word) (v : Byte),
    let c := b.written a v
    c.io.ly = b.io.ly ∧ c.io.mode = b.io.mode ∧ c.pressed = b.pressed ∧
    (c.value 0xFF00).extractLsb' 0 4 = joypadBits c.io.p1Sel b.pressed ∧
    (c.value 0xFF00).extractLsb' 6 2 = 0b11#2 ∧ (c.value 0xFF0F).extractLsb' 5 3 = 0b111#3 ∧
    (c.value 0xFF41).getLsbD 7 = true ∧ (c.value 0xFF41).getLsbD 2 = decide (c.io.ly = c.io.lyc) ∧
    (c.value 0xFF41).extractLsb' 0 2 = b.io.mode ∧ (c.value 0xFF07).extractLsb' 3 5 = 0b11111#5 ∧
    (0xFF00 ≤ a.toNat → b.readable a = true ∧ (a ≠ 0xFF46 → b.writable a v = true))

/-- A write of v to 0xFF46 stores v in DMA and, from a page up to 0xFE whose 160 bytes the cartridge does not
refuse, fills OAM so that entry k holds the byte that address v * 256 + k read before, for every k below 160,
and changes nothing else. Where the cartridge refuses byte n and none before it, the write is fatal with the
address of that byte: the entries below n are copied, the others stay, DMA holds v. From page 0xFF the copy
always completes: entry k holds what register or high-RAM byte k reads with v in DMA, or a draw where no
register is; its reads of the palette registers set every dirty flag and its 71 reads of unmapped addresses take
a draw each. (The source page, the instant copy and the free access are the decision D34 of the spec itself; the
draws: log 7.) (20_memory.md R72, 20_memory.md R68, 20_memory.md R62) -/
def Obligations.OamDma : Prop :=
  ∀ (b : Bus) (v : Byte),
    let source : Nat → Word := fun k => word v (BitVec.ofNat 8 k)
    let started : Bus := { b with io := { b.io with dma := v } }
    (v.toNat ≤ 0xFE → (∀ k, k < 160 → b.readable (source k) = true) →
      ∃ c, b.write 0xFF46 v = .ok () c ∧ c = { started with oam := c.oam } ∧
        ∀ k, k < 160 → c.oam.read k = b.value (source k)) ∧
    (∀ n, n < 160 → (∀ k, k < n → b.readable (source k) = true) → b.readable (source n) = false →
      ∃ c, b.write 0xFF46 v = .fatal (source n) c ∧ c = { started with oam := c.oam } ∧
        (∀ k, k < n → c.oam.read k = b.value (source k)) ∧ ∀ k, n ≤ k → c.oam.read k = b.oam.read k) ∧
    (v = 0xFF → ∃ c, b.write 0xFF46 v = .ok () c ∧
      c = { started with oam := c.oam, caches := { bg := [], window := [], sprite := [] }, draws := b.draws + 71 } ∧
      ∀ k, k < 160 → regionOf (source k).toNat ≠ .unmapped → c.oam.read k = started.value (source k))

/-- A write to NR14 stores the byte, sets frequency bits 10 to 8 and the length enable, and where bit 7 is set
reloads the length from NR11, the amplitude from the envelope and clears the position, the envelope and the
sweep counters; nothing else changes. (The count of calls a length gives is the OPEN function LenCalls, whose
default is stated: log 16.) (The register map and the order are the decisions D37 and D38 of the spec itself.)
(60_exceptions.md R342, 60_exceptions.md R343, 20_memory.md R73) -/
def Obligations.SoundRestart : Prop :=
  (∀ t, t < 64 → Config.Params.default.lenCalls 1 t = (64 - t + 3) / 4) ∧ ∀ (b : Bus) (v : Byte),
    let ch := b.snd.ch1
    let ch' : ToneChannel := { ch with
      freq := v.extractLsb' 0 3 ++ ch.freq.extractLsb' 0 8
      voice := { ch.voice with lenEnable := v.getLsbD 6 } }
    b.write 0xFF14 v = .ok () { b with
      sregs := { b.sregs with nr14 := v }
      snd := { b.snd with
        ch1 := if v.getLsbD 7 then
            { ch' with
              voice := { ch'.voice with pos := 0, len := b.cfg.lenCalls 1 (b.sregs.nr11.extractLsb' 0 6).toNat }
              amp := ch.env.initial, env := { ch.env with count := 0 } }
          else ch'
        sweep := if v.getLsbD 7 then { b.snd.sweep with count := 0 } else b.snd.sweep } }

/-- SetInput stores whether the button is pressed; a change from released to pressed also sets IF bit 4 and clears
stopped; a release or a repeat requests nothing; nothing else changes (nothing at all after a fatal error).
(That a press requests Joypad and ends stopped are the decisions D35 and D16 of the spec itself.)
(60_exceptions.md R340) -/
def Obligations.SetInputPress : Prop :=
  ∀ (k : Button) (p : Bool) (s : State), s.cpu.fault = none →
    setInput k p s =
      if s.bus.pressed.get k = false ∧ p = true then
        { cpu := { s.cpu with stopped := false }
          bus := { s.bus with pressed := s.bus.pressed.set k p, io := { s.bus.io with ifl := s.bus.io.ifl ||| 0b10000#5 } } }
      else { s with bus := { s.bus with pressed := s.bus.pressed.set k p } }

/-- Advancing the timers by n ticks adds to DIV, modulo 256, one for each 256 ticks accumulated and keeps the rest;
with the timer off TIMA and its accumulator hold; with it on, one TIMA increment is made for each period
accumulated (1024, 16, 64, 256 ticks by TAC) and the rest is kept; an increment at 0xFF reloads TMA and sets IF
bit 2, any other adds one. (The periods and the reload are the decision D29 of the spec itself.)
(60_exceptions.md R320, 60_exceptions.md R321) -/
def Obligations.TimerAdvance : Prop :=
  (∀ (b : Bus) (n : Nat),
    (b.timerAdvance n).io.div = b.io.div + BitVec.ofNat 8 ((b.drv.divAcc + n) / 256) ∧
    (b.timerAdvance n).drv.divAcc = (b.drv.divAcc + n) % 256 ∧
    (b.io.tac.getLsbD 2 = false →
      (b.timerAdvance n).io.tima = b.io.tima ∧ (b.timerAdvance n).drv.timaAcc = b.drv.timaAcc ∧
      (b.timerAdvance n).io.ifl = b.io.ifl) ∧
    (b.io.tac.getLsbD 2 = true →
      let p := [1024, 16, 64, 256].getD (b.io.tac.extractLsb' 0 2).toNat 0
      (b.timerAdvance n).drv.timaAcc = (b.drv.timaAcc + n) % p ∧
      (b.timerAdvance n).io.tima = (b.countTimaBy ((b.drv.timaAcc + n) / p)).io.tima ∧
      (b.timerAdvance n).io.ifl = (b.countTimaBy ((b.drv.timaAcc + n) / p)).io.ifl)) ∧
  (∀ (b : Bus) (n : Nat), b.countTimaBy 0 = b ∧ b.countTimaBy (n + 1) =
    (if b.io.tima = 0xFF then { b with io := { b.io with tima := b.io.tma, ifl := b.io.ifl ||| 0b00100#5 } }
     else { b with io := { b.io with tima := b.io.tima + 1 } }).countTimaBy n)

/-- A phase is n Steps, each made with no fatal error and fewer ticks passed than the target, which is the budget
less the carry; after the last of them one of the two no longer holds, and without a fatal error the carry is
the ticks passed less the target, with one the carry stays. It is less than what the last Step added. Over any
run of phases without a fatal error the ticks that passed equal the sum of the budgets plus the final carry
minus the initial one. (That a fatal error ends a phase at once is R272; a Step adds at least one tick, log 29,
and its ticks are OPEN parameters, log 30.) (60_exceptions.md R312, 60_exceptions.md R272,
70_reset_and_hazards.md R371) -/
def Obligations.PhaseAccounting : Prop :=
  ∀ (s : State),
    (∀ (budget : Nat),
      let target : Int := budget - s.bus.drv.carry
      let after : Nat → State := fun m => Nat.repeat State.stepped m s
      let passed : Nat → Int := fun m => (after m).cpu.ticks - s.cpu.ticks
      ∃ n, (∀ m, m < n → (after m).cpu.fault = none ∧ passed m < target) ∧
        ¬((after n).cpu.fault = none ∧ passed n < target) ∧
        ((after n).cpu.fault ≠ none → s.runPhase budget = after n) ∧
        ((after n).cpu.fault = none → s.runPhase budget = { after n with
          bus := { (after n).bus with drv := { (after n).bus.drv with carry := (passed n - target).toNat } } }) ∧
        (∀ m, n = m + 1 → passed n - target < passed n - passed m)) ∧
    (∀ (budgets : List Nat),
      let t := budgets.foldl (fun u budget => u.runPhase budget) s
      t.cpu.fault = none →
        t.cpu.ticks + s.bus.drv.carry = s.cpu.ticks + budgets.sum + t.bus.drv.carry)

/-- Where RunFrame ends without a fatal error, the ticks that passed plus the carry it began with are the budgets of
its 144 visible lines and 10 V-Blank lines plus the carry it leaves; LY is then 153 and the LCD mode 1. Under
the default of the OPEN parameter PHASE_TICKS (log 13) the budgets are 70224 ticks. (The budgets are the
decision D27 of the spec itself; the parameter: log 13, log 30.) (60_exceptions.md R312, 60_exceptions.md R317,
70_reset_and_hazards.md R372) -/
def Obligations.FrameAccounting : Prop :=
  (∀ p : Config.Params,
    p.frameTicks = 144 * (p.phaseOam + p.phaseTransfer + p.phaseHBlank) + 10 * p.phaseVBlank) ∧
  Config.Params.default.frameTicks = 70224 ∧
  ∀ (pcm : List Int → List Byte) (s : State),
    let t := (runFrame pcm s).1
    t.cpu.fault = none →
      t.cpu.ticks + s.bus.drv.carry = s.cpu.ticks + s.bus.cfg.frameTicks + t.bus.drv.carry ∧
      t.bus.io.ly = 153 ∧ t.bus.io.mode = 1

/-- In every state that keeps the invariant, rendering a line through the caches puts into the frame buffer exactly
the pixels that decoding video RAM as it is gives, under either sense of the sprite priority bit, changes no
other row, recomputes exactly the entries it uses whose dirty flag is set, clearing their flags, and leaves the
invariant in force. No Step clears a dirty flag. (Which entries a line is about to use is DEDUCED and unsafe:
log 28. Tile caches are held as their valid entries only: log 3, a DESIGN CHOICE.) (60_exceptions.md R324,
60_exceptions.md R326, 60_exceptions.md R327, 60_exceptions.md R328, 60_exceptions.md R329) -/
def Obligations.CachedRenderIsDirect : Prop :=
  (∀ (b : Bus) (sense : Config.PrioritySense) (y : Nat), b.Inv → y < 144 →
    let c := b.renderLine sense y
    c = { b with fb := c.fb, caches := c.caches } ∧
    Cells.read (blankLine b.cfg) c.fb y = linePixels (TileSource.direct b) b sense y ∧
    (∀ z, z ≠ y → Cells.read (blankLine b.cfg) c.fb z = Cells.read (blankLine b.cfg) b.fb z) ∧
    (∀ k, Cells.lookup c.caches.bg k = (Cells.lookup b.caches.bg k).or
      (if k ∈ usedBgCells b.io y then some (bgTile b.vram b.io (b.io.lcdc.getLsbD 3) k) else none)) ∧
    (∀ k, Cells.lookup c.caches.window k = (Cells.lookup b.caches.window k).or
      (if k ∈ usedWindowCells b.io y then some (bgTile b.vram b.io (b.io.lcdc.getLsbD 6) k) else none)) ∧
    (∀ k, Cells.lookup c.caches.sprite k = (Cells.lookup b.caches.sprite k).or
      (if k ∈ usedSpriteTiles b y then some (objTile b.vram b.io k) else none)) ∧
    c.Inv) ∧
  (∀ (s t : State), step s = .next t → ∀ k,
    (∀ x, Cells.lookup t.bus.caches.bg k = some x → Cells.lookup s.bus.caches.bg k = some x) ∧
    (∀ x, Cells.lookup t.bus.caches.window k = some x → Cells.lookup s.bus.caches.window k = some x) ∧
    (∀ x, Cells.lookup t.bus.caches.sprite k = some x → Cells.lookup s.bus.caches.sprite k = some x))

/-- Whatever a Step does, from any state that keeps the invariant the next one keeps it: every array canonical and
within its size, decoded palettes those of the palette registers, no bank number 0 where the write rule forbids
it, every valid tile-cache entry what its tile decodes to now, wave samples and mixer settings those of their
registers. (10_state.md, 20_memory.md, 60_exceptions.md) -/
def Obligations.StepKeepsInvariant : Prop :=
  ∀ (s t : State), s.Inv → step s = .next t → t.Inv

/-- From any state that keeps the invariant, any sequence of Step, RunFrame and SetInput calls leads to a state that
keeps it, with the OPEN parameters it had, whatever PcmEncode is. (The sinks' answers and the clock are draws:
log 8, log 9; that the machine carries its OPEN parameters: log 30.) (60_exceptions.md R349, 60_exceptions.md
R318, 70_reset_and_hazards.md R362) -/
def Obligations.HostCallsKeepInvariant : Prop :=
  ∀ (pcm : List Int → List Byte) (calls : List HostCall) (s : State), s.Inv →
    (runCalls pcm calls s).Inv ∧ (runCalls pcm calls s).bus.cfg = s.bus.cfg

/-- An image of at least 0x8000 bytes, of a length that is a multiple of 0x4000, with one of the known cartridge
types at 0x0147, gives, under any OPEN parameters and any legal reset record, a machine that keeps the
invariant, with those parameters, the CPU and the tile caches as the record has them and a picture of 160 by
144, whatever bytes were saved; any other image gives none. The default record is legal under the default
parameters. (The policy and the table of types are the spec decisions D20 and D25.) (Which constraints a reset
record has is R49, beside canonical storage, legal bank numbers and, by R42, valid tiles; the default of RESET:
log 1; a refused image: log 27.) (20_memory.md R92, 20_memory.md R116, 60_exceptions.md R339,
70_reset_and_hazards.md R351) -/
def Obligations.ConstructionInvariant : Prop :=
  Reset.default.legal .default ∧ ∀ (p : Config.Params) (r : Reset) (image : List Byte) (load : List Byte → Option (List Byte)),
    let good : Prop := 0x8000 ≤ image.length ∧ image.length % 0x4000 = 0 ∧
      (image.getD 0x0147 0).toNat ∈
        ([0x00, 0x01, 0x02, 0x03, 0x05, 0x06, 0x0F, 0x10, 0x11, 0x12, 0x13] : List Nat)
    (¬good → construct p r image load = none) ∧
    (good → r.legal p → ∃ c, construct p r image load = some c ∧ c.state.Inv ∧ c.state.bus.cfg = p ∧
      c.state.cpu = r.cpu ∧ c.state.bus.caches = r.caches ∧ c.size = (160, 144))

/-- The machine right after reset keeps the invariant. (The reset state is the default of the OPEN record RESET (log
1) and of the other OPEN parameters (log 30), on the blank cartridge the model chose (log 2).) (10_state.md,
70_reset_and_hazards.md) -/
def Obligations.ResetKeepsInvariant : Prop :=
  State.reset.Inv

/-- Execution starts at 0x0100 with IME 0, IE 0x00, nothing pending, SP 0xFFFE, not halted, not stopped, the quirk
not armed, 0 ticks, no fatal error, ROM bank 1 in window 1, LCDC 0x91 and LY 0, every OPEN parameter at its
default. (The values are the default of the OPEN record RESET, decision D13 of the spec itself (log 1), and of
the other OPEN parameters (log 30), on the blank cartridge the model chose (log 2).) (70_reset_and_hazards.md
R352) -/
def Obligations.ResetState : Prop :=
  let s := State.reset
  s.bus.cfg = Config.Params.default ∧
  s.cpu.pc = 0x0100 ∧ s.cpu.ime = false ∧ s.bus.io.ie = 0x00 ∧ s.bus.io.ifl = 0 ∧ s.cpu.sp = 0xFFFE ∧
    s.cpu.halted = false ∧ s.cpu.stopped = false ∧ s.cpu.skipInc = false ∧ s.cpu.ticks = 0 ∧ s.cpu.fault = none ∧
    s.bus.cart.ctl.romBankEff = 1 ∧ s.bus.io.lcdc = 0x91 ∧ s.bus.io.ly = 0x00 ∧
    s.cpu.regs = { a := 0x01, b := 0x00, c := 0x13, d := 0x00, e := 0xD8, h := 0x01, l := 0x4D } ∧
    s.cpu.flags = { z := true, n := false, h := true, c := true }
end

