-- ==== Sys2Proof/Laws/Cells.lean ====
section
/-! SUPPORT. The laws of sparse storage: a read after a write, the canonical form kept, and that canonical lists
which read alike are equal. -/

namespace Sys2Proof.Machine

variable {α : Type}

theorem Cells.lookup_erase (m : List (Nat × α)) (k j : Nat) :
    Cells.lookup (Cells.erase m k) j = if j = k then none else Cells.lookup m j := by
  induction m with
  | nil => simp [Cells.erase, Cells.lookup]
  | cons c m ih =>
    obtain ⟨i, w⟩ := c
    simp only [Cells.erase, List.filter_cons] at ih ⊢
    by_cases h : i = k
    · subst h; simp only [Cells.lookup]; grind
    · simp only [Cells.lookup]; grind [Cells.lookup]

theorem Cells.lookup_insert (m : List (Nat × α)) (k j : Nat) (v : α) (h : Cells.lookup m k = none) :
    Cells.lookup (Cells.insert m k v) j = if j = k then some v else Cells.lookup m j := by
  induction m with
  | nil => simp [Cells.insert, Cells.lookup, eq_comm]
  | cons c m ih =>
    obtain ⟨i, w⟩ := c
    simp only [Cells.insert, Cells.lookup] at h ⊢
    grind [Cells.lookup]

variable [DecidableEq α]

/-- A read after a write: the written value at the key, everywhere else the value from before. -/
theorem Cells.read_write (d : α) (m : List (Nat × α)) (k j : Nat) (v : α) :
    Cells.read d (Cells.write d m k v) j = if j = k then v else Cells.read d m j := by
  unfold Cells.read Cells.write
  split
  · rw [Cells.lookup_erase]; grind
  · rw [Cells.lookup_insert _ _ _ _ (by simp [Cells.lookup_erase]), Cells.lookup_erase]; grind

/-- A read from another key than the one written. -/
theorem Cells.read_write_of_ne (d : α) (m : List (Nat × α)) {k j : Nat} (v : α) (h : j ≠ k) :
    Cells.read d (Cells.write d m k v) j = Cells.read d m j := by
  rw [Cells.read_write, if_neg h]

@[simp] theorem Cells.read_write_self (d : α) (m : List (Nat × α)) (k : Nat) (v : α) :
    Cells.read d (Cells.write d m k v) k = v := by
  rw [Cells.read_write, if_pos rfl]

/-! ### The canonical form -/

theorem Cells.wfFrom_mono (d : α) {lo lo' : Nat} (m : List (Nat × α)) (h : lo' ≤ lo)
    (w : Cells.wfFrom d lo m = true) : Cells.wfFrom d lo' m = true := by
  cases m with
  | nil => rfl
  | cons c m =>
    obtain ⟨i, x⟩ := c
    simp only [Cells.wfFrom, Bool.and_eq_true, decide_eq_true_eq] at w ⊢
    exact ⟨⟨by omega, w.1.2⟩, w.2⟩

theorem Cells.wfFrom_erase (d : α) (lo : Nat) (m : List (Nat × α)) (k : Nat)
    (w : Cells.wfFrom d lo m = true) : Cells.wfFrom d lo (Cells.erase m k) = true := by
  induction m generalizing lo with
  | nil => exact w
  | cons c m ih =>
    obtain ⟨i, x⟩ := c
    simp only [Cells.wfFrom, Bool.and_eq_true, decide_eq_true_eq] at w
    have ih := ih _ w.2
    simp only [Cells.erase, List.filter_cons] at ih ⊢
    split
    · simp only [Cells.wfFrom, Bool.and_eq_true, decide_eq_true_eq]
      exact ⟨w.1, ih⟩
    · exact Cells.wfFrom_mono d _ (by omega) ih

theorem Cells.wfFrom_insert (d : α) (lo : Nat) (m : List (Nat × α)) (k : Nat) (v : α) (hk : lo ≤ k) (hv : v ≠ d)
    (h : Cells.lookup m k = none) (w : Cells.wfFrom d lo m = true) :
    Cells.wfFrom d lo (Cells.insert m k v) = true := by
  induction m generalizing lo with
  | nil => simp [Cells.insert, Cells.wfFrom, hk, hv]
  | cons c m ih =>
    obtain ⟨i, x⟩ := c
    simp only [Cells.wfFrom, Bool.and_eq_true, decide_eq_true_eq] at w
    simp only [Cells.lookup] at h
    simp only [Cells.insert]
    split
    · rename_i hlt
      simp only [Cells.wfFrom, Bool.and_eq_true, decide_eq_true_eq]
      exact ⟨⟨hk, hv⟩, ⟨by omega, w.1.2⟩, w.2⟩
    · rename_i hlt
      split at h
      · cases h
      · simp only [Cells.wfFrom, Bool.and_eq_true, decide_eq_true_eq]
        exact ⟨w.1, ih _ (by omega) h w.2⟩

/-- A write keeps the canonical form. -/
theorem Cells.wfFrom_write (d : α) (m : List (Nat × α)) (k : Nat) (v : α) (w : Cells.wfFrom d 0 m = true) :
    Cells.wfFrom d 0 (Cells.write d m k v) = true := by
  unfold Cells.write
  have e := Cells.wfFrom_erase d 0 m k w
  split
  · exact e
  · rename_i hv
    exact Cells.wfFrom_insert d 0 _ k v (Nat.zero_le _) hv (by simp [Cells.lookup_erase]) e

omit [DecidableEq α] in
theorem Cells.below_erase (n : Nat) (m : List (Nat × α)) (k : Nat) (w : Cells.below n m = true) :
    Cells.below n (Cells.erase m k) = true := by
  unfold Cells.below Cells.erase at *
  simp only [List.all_eq_true, List.mem_filter] at *
  grind

omit [DecidableEq α] in
theorem Cells.below_insert (n : Nat) (m : List (Nat × α)) (k : Nat) (v : α) (hk : k < n)
    (w : Cells.below n m = true) : Cells.below n (Cells.insert m k v) = true := by
  induction m with
  | nil => simp [Cells.insert, Cells.below, hk]
  | cons c m ih =>
    obtain ⟨i, x⟩ := c
    simp only [Cells.below, List.all_cons, Bool.and_eq_true, Cells.insert] at *
    split
    · simp only [List.all_cons, Bool.and_eq_true]
      exact ⟨by simpa using hk, w⟩
    · simp only [List.all_cons, Bool.and_eq_true]
      exact ⟨w.1, ih w.2⟩

/-- A write below the bound keeps every key below it. -/
theorem Cells.below_write (d : α) (n : Nat) (m : List (Nat × α)) (k : Nat) (v : α) (hk : k < n)
    (w : Cells.below n m = true) : Cells.below n (Cells.write d m k v) = true := by
  unfold Cells.write
  split
  · exact Cells.below_erase n m k w
  · exact Cells.below_insert n _ k v hk (Cells.below_erase n m k w)

theorem Cells.lookup_none_of_wfFrom (d : α) (lo : Nat) (m : List (Nat × α)) (k : Nat) (hk : k < lo)
    (w : Cells.wfFrom d lo m = true) : Cells.lookup m k = none := by
  induction m generalizing lo with
  | nil => rfl
  | cons c m ih =>
    obtain ⟨i, x⟩ := c
    simp only [Cells.wfFrom, Bool.and_eq_true, decide_eq_true_eq] at w
    simp only [Cells.lookup]
    rw [if_neg (by omega)]
    exact ih (i + 1) (by omega) w.2

/-- Canonical lists that read alike are equal. -/
theorem Cells.eq_of_read (d : α) (lo : Nat) (m n : List (Nat × α)) (wm : Cells.wfFrom d lo m = true)
    (wn : Cells.wfFrom d lo n = true) (h : ∀ k, Cells.read d m k = Cells.read d n k) : m = n := by
  induction m generalizing n lo with
  | nil =>
    cases n with
    | nil => rfl
    | cons c n =>
      obtain ⟨i, x⟩ := c
      simp only [Cells.wfFrom, Bool.and_eq_true, decide_eq_true_eq] at wn
      exact absurd (by simpa [Cells.read, Cells.lookup] using (h i).symm) wn.1.2
  | cons c m ih =>
    obtain ⟨i, x⟩ := c
    simp only [Cells.wfFrom, Bool.and_eq_true, decide_eq_true_eq] at wm
    cases n with
    | nil => exact absurd (by simpa [Cells.read, Cells.lookup] using h i) wm.1.2
    | cons e n =>
      obtain ⟨j, y⟩ := e
      simp only [Cells.wfFrom, Bool.and_eq_true, decide_eq_true_eq] at wn
      have hi := h i
      have hj := h j
      have e1 : i = j := by
        rcases Nat.lt_trichotomy i j with l | l | l
        · have := Cells.lookup_none_of_wfFrom d _ n i (show i < j + 1 by omega) wn.2
          simp [Cells.read, Cells.lookup, this, show j ≠ i by omega] at hi
          exact absurd hi wm.1.2
        · exact l
        · have := Cells.lookup_none_of_wfFrom d _ m j (show j < i + 1 by omega) wm.2
          simp [Cells.read, Cells.lookup, this, show i ≠ j by omega] at hj
          exact absurd hj.symm wn.1.2
      subst e1
      have e2 : x = y := by simpa [Cells.read, Cells.lookup] using hi
      subst e2
      have e3 : m = n := by
        refine ih (i + 1) n wm.2 wn.2 fun k => ?_
        by_cases hk : k = i
        · subst hk
          simp [Cells.read, Cells.lookup_none_of_wfFrom d _ m k (Nat.lt_succ_self k) wm.2,
            Cells.lookup_none_of_wfFrom d _ n k (Nat.lt_succ_self k) wn.2]
        · have := h k
          simpa [Cells.read, Cells.lookup, show i ≠ k from fun q => hk q.symm] using this
      rw [e3]

/-! ### Byte arrays -/

theorem Memory.read_write (m : Memory) (k j : Nat) (v : Byte) :
    (m.write k v).read j = if j = k then v else m.read j := Cells.read_write 0 m k j v

@[simp] theorem Memory.read_write_self (m : Memory) (k : Nat) (v : Byte) : (m.write k v).read k = v :=
  Cells.read_write_self 0 m k v

theorem Memory.read_write_of_ne (m : Memory) {k j : Nat} (v : Byte) (h : j ≠ k) : (m.write k v).read j = m.read j :=
  Cells.read_write_of_ne 0 m v h

theorem Memory.wf_write (m : Memory) (k : Nat) (v : Byte) (w : m.wf = true) : (m.write k v).wf = true :=
  Cells.wfFrom_write 0 m k v w

/-- Canonical byte arrays that read alike are equal. -/
theorem Memory.eq_of_read (m n : Memory) (wm : m.wf = true) (wn : n.wf = true) (h : ∀ k, m.read k = n.read k) :
    m = n := Cells.eq_of_read 0 0 m n wm wn h

theorem Memory.wfFrom_ofBytes (k : Nat) (bytes : List Byte) :
    Cells.wfFrom 0 k (Memory.ofBytes k bytes) = true := by
  induction bytes generalizing k with
  | nil => rfl
  | cons v rest ih =>
    simp only [Memory.ofBytes]
    split
    · exact Cells.wfFrom_mono 0 _ (Nat.le_succ k) (ih (k + 1))
    · rename_i hv
      simp only [Cells.wfFrom, Bool.and_eq_true, decide_eq_true_eq]
      exact ⟨⟨Nat.le_refl k, hv⟩, ih (k + 1)⟩

/-- The array of a list of bytes is canonical. -/
theorem Memory.wf_ofBytes (bytes : List Byte) : (Memory.ofBytes 0 bytes).wf = true := Memory.wfFrom_ofBytes 0 bytes

theorem Memory.below_ofBytes (k : Nat) (bytes : List Byte) :
    Cells.below (k + bytes.length) (Memory.ofBytes k bytes) = true := by
  induction bytes generalizing k with
  | nil => rfl
  | cons v rest ih =>
    have ih := ih (k + 1)
    rw [show k + 1 + rest.length = k + (v :: rest).length by simp; omega] at ih
    simp only [Memory.ofBytes]
    split
    · exact ih
    · simp only [Cells.below, List.all_cons, Bool.and_eq_true, decide_eq_true_eq]
      exact ⟨by simp, ih⟩

/-- The array of a list of bytes reads as the list, 0x00 past its end. -/
theorem Memory.read_ofBytes (bytes : List Byte) (k j : Nat) : (Memory.ofBytes k bytes).read (k + j) = bytes.getD j 0 := by
  induction bytes generalizing k j with
  | nil => rfl
  | cons v rest ih =>
    have w := Memory.wfFrom_ofBytes (k + 1) rest
    simp only [Memory.ofBytes]
    cases j with
    | zero =>
      have n := Cells.lookup_none_of_wfFrom 0 _ _ k (by omega) w
      split
      · rename_i e; subst e; simp [Memory.read, Cells.read, n]
      · simp [Memory.read, Cells.read, Cells.lookup]
    | succ j =>
      have := ih (k + 1) j
      rw [show k + 1 + j = k + (j + 1) by omega] at this
      split
      · simpa using this
      · simpa [Memory.read, Cells.read, Cells.lookup] using this

end Sys2Proof.Machine
end

