-- ==== Sys2Proof/Laws/State.lean ====
section
/-! SUPPORT. What each update of the state does to each field: one lemma per field and update. -/

namespace Sys2Proof.Machine

/-! ### setReg -/

@[simp] theorem State.setReg_regs (s : State) (r : Reg8) (v : Byte) : (s.setReg r v).cpu.regs = s.cpu.regs.set r v := rfl
@[simp] theorem State.setReg_flags (s : State) (r : Reg8) (v : Byte) : (s.setReg r v).cpu.flags = s.cpu.flags := rfl
@[simp] theorem State.setReg_sp (s : State) (r : Reg8) (v : Byte) : (s.setReg r v).cpu.sp = s.cpu.sp := rfl
@[simp] theorem State.setReg_pc (s : State) (r : Reg8) (v : Byte) : (s.setReg r v).cpu.pc = s.cpu.pc := rfl
@[simp] theorem State.setReg_ime (s : State) (r : Reg8) (v : Byte) : (s.setReg r v).cpu.ime = s.cpu.ime := rfl
@[simp] theorem State.setReg_halted (s : State) (r : Reg8) (v : Byte) : (s.setReg r v).cpu.halted = s.cpu.halted := rfl
@[simp] theorem State.setReg_stopped (s : State) (r : Reg8) (v : Byte) : (s.setReg r v).cpu.stopped = s.cpu.stopped := rfl
@[simp] theorem State.setReg_skipInc (s : State) (r : Reg8) (v : Byte) : (s.setReg r v).cpu.skipInc = s.cpu.skipInc := rfl
@[simp] theorem State.setReg_ticks (s : State) (r : Reg8) (v : Byte) : (s.setReg r v).cpu.ticks = s.cpu.ticks := rfl
@[simp] theorem State.setReg_fault (s : State) (r : Reg8) (v : Byte) : (s.setReg r v).cpu.fault = s.cpu.fault := rfl
@[simp] theorem State.setReg_bus (s : State) (r : Reg8) (v : Byte) : (s.setReg r v).bus = s.bus := rfl

/-! ### setStackPair -/

@[simp] theorem State.setStackPair_regs (s : State) (p : StackPair) (v : Word) : (s.setStackPair p v).cpu.regs = s.cpu.regs.setPair p v := rfl
@[simp] theorem State.setStackPair_flags (s : State) (p : StackPair) (v : Word) : (s.setStackPair p v).cpu.flags = s.cpu.flags := rfl
@[simp] theorem State.setStackPair_sp (s : State) (p : StackPair) (v : Word) : (s.setStackPair p v).cpu.sp = s.cpu.sp := rfl
@[simp] theorem State.setStackPair_pc (s : State) (p : StackPair) (v : Word) : (s.setStackPair p v).cpu.pc = s.cpu.pc := rfl
@[simp] theorem State.setStackPair_ime (s : State) (p : StackPair) (v : Word) : (s.setStackPair p v).cpu.ime = s.cpu.ime := rfl
@[simp] theorem State.setStackPair_halted (s : State) (p : StackPair) (v : Word) : (s.setStackPair p v).cpu.halted = s.cpu.halted := rfl
@[simp] theorem State.setStackPair_stopped (s : State) (p : StackPair) (v : Word) : (s.setStackPair p v).cpu.stopped = s.cpu.stopped := rfl
@[simp] theorem State.setStackPair_skipInc (s : State) (p : StackPair) (v : Word) : (s.setStackPair p v).cpu.skipInc = s.cpu.skipInc := rfl
@[simp] theorem State.setStackPair_ticks (s : State) (p : StackPair) (v : Word) : (s.setStackPair p v).cpu.ticks = s.cpu.ticks := rfl
@[simp] theorem State.setStackPair_fault (s : State) (p : StackPair) (v : Word) : (s.setStackPair p v).cpu.fault = s.cpu.fault := rfl
@[simp] theorem State.setStackPair_bus (s : State) (p : StackPair) (v : Word) : (s.setStackPair p v).bus = s.bus := rfl

/-! ### setSp -/

@[simp] theorem State.setSp_regs (s : State) (v : Word) : (s.setSp v).cpu.regs = s.cpu.regs := rfl
@[simp] theorem State.setSp_flags (s : State) (v : Word) : (s.setSp v).cpu.flags = s.cpu.flags := rfl
@[simp] theorem State.setSp_sp (s : State) (v : Word) : (s.setSp v).cpu.sp = v := rfl
@[simp] theorem State.setSp_pc (s : State) (v : Word) : (s.setSp v).cpu.pc = s.cpu.pc := rfl
@[simp] theorem State.setSp_ime (s : State) (v : Word) : (s.setSp v).cpu.ime = s.cpu.ime := rfl
@[simp] theorem State.setSp_halted (s : State) (v : Word) : (s.setSp v).cpu.halted = s.cpu.halted := rfl
@[simp] theorem State.setSp_stopped (s : State) (v : Word) : (s.setSp v).cpu.stopped = s.cpu.stopped := rfl
@[simp] theorem State.setSp_skipInc (s : State) (v : Word) : (s.setSp v).cpu.skipInc = s.cpu.skipInc := rfl
@[simp] theorem State.setSp_ticks (s : State) (v : Word) : (s.setSp v).cpu.ticks = s.cpu.ticks := rfl
@[simp] theorem State.setSp_fault (s : State) (v : Word) : (s.setSp v).cpu.fault = s.cpu.fault := rfl
@[simp] theorem State.setSp_bus (s : State) (v : Word) : (s.setSp v).bus = s.bus := rfl

/-! ### setPc -/

@[simp] theorem State.setPc_regs (s : State) (v : Word) : (s.setPc v).cpu.regs = s.cpu.regs := rfl
@[simp] theorem State.setPc_flags (s : State) (v : Word) : (s.setPc v).cpu.flags = s.cpu.flags := rfl
@[simp] theorem State.setPc_sp (s : State) (v : Word) : (s.setPc v).cpu.sp = s.cpu.sp := rfl
@[simp] theorem State.setPc_pc (s : State) (v : Word) : (s.setPc v).cpu.pc = v := rfl
@[simp] theorem State.setPc_ime (s : State) (v : Word) : (s.setPc v).cpu.ime = s.cpu.ime := rfl
@[simp] theorem State.setPc_halted (s : State) (v : Word) : (s.setPc v).cpu.halted = s.cpu.halted := rfl
@[simp] theorem State.setPc_stopped (s : State) (v : Word) : (s.setPc v).cpu.stopped = s.cpu.stopped := rfl
@[simp] theorem State.setPc_skipInc (s : State) (v : Word) : (s.setPc v).cpu.skipInc = s.cpu.skipInc := rfl
@[simp] theorem State.setPc_ticks (s : State) (v : Word) : (s.setPc v).cpu.ticks = s.cpu.ticks := rfl
@[simp] theorem State.setPc_fault (s : State) (v : Word) : (s.setPc v).cpu.fault = s.cpu.fault := rfl
@[simp] theorem State.setPc_bus (s : State) (v : Word) : (s.setPc v).bus = s.bus := rfl

/-! ### setFlags -/

@[simp] theorem State.setFlags_regs (s : State) (f : Flags) : (s.setFlags f).cpu.regs = s.cpu.regs := rfl
@[simp] theorem State.setFlags_flags (s : State) (f : Flags) : (s.setFlags f).cpu.flags = f := rfl
@[simp] theorem State.setFlags_sp (s : State) (f : Flags) : (s.setFlags f).cpu.sp = s.cpu.sp := rfl
@[simp] theorem State.setFlags_pc (s : State) (f : Flags) : (s.setFlags f).cpu.pc = s.cpu.pc := rfl
@[simp] theorem State.setFlags_ime (s : State) (f : Flags) : (s.setFlags f).cpu.ime = s.cpu.ime := rfl
@[simp] theorem State.setFlags_halted (s : State) (f : Flags) : (s.setFlags f).cpu.halted = s.cpu.halted := rfl
@[simp] theorem State.setFlags_stopped (s : State) (f : Flags) : (s.setFlags f).cpu.stopped = s.cpu.stopped := rfl
@[simp] theorem State.setFlags_skipInc (s : State) (f : Flags) : (s.setFlags f).cpu.skipInc = s.cpu.skipInc := rfl
@[simp] theorem State.setFlags_ticks (s : State) (f : Flags) : (s.setFlags f).cpu.ticks = s.cpu.ticks := rfl
@[simp] theorem State.setFlags_fault (s : State) (f : Flags) : (s.setFlags f).cpu.fault = s.cpu.fault := rfl
@[simp] theorem State.setFlags_bus (s : State) (f : Flags) : (s.setFlags f).bus = s.bus := rfl

/-! ### setIme -/

@[simp] theorem State.setIme_regs (s : State) (v : Bool) : (s.setIme v).cpu.regs = s.cpu.regs := rfl
@[simp] theorem State.setIme_flags (s : State) (v : Bool) : (s.setIme v).cpu.flags = s.cpu.flags := rfl
@[simp] theorem State.setIme_sp (s : State) (v : Bool) : (s.setIme v).cpu.sp = s.cpu.sp := rfl
@[simp] theorem State.setIme_pc (s : State) (v : Bool) : (s.setIme v).cpu.pc = s.cpu.pc := rfl
@[simp] theorem State.setIme_ime (s : State) (v : Bool) : (s.setIme v).cpu.ime = v := rfl
@[simp] theorem State.setIme_halted (s : State) (v : Bool) : (s.setIme v).cpu.halted = s.cpu.halted := rfl
@[simp] theorem State.setIme_stopped (s : State) (v : Bool) : (s.setIme v).cpu.stopped = s.cpu.stopped := rfl
@[simp] theorem State.setIme_skipInc (s : State) (v : Bool) : (s.setIme v).cpu.skipInc = s.cpu.skipInc := rfl
@[simp] theorem State.setIme_ticks (s : State) (v : Bool) : (s.setIme v).cpu.ticks = s.cpu.ticks := rfl
@[simp] theorem State.setIme_fault (s : State) (v : Bool) : (s.setIme v).cpu.fault = s.cpu.fault := rfl
@[simp] theorem State.setIme_bus (s : State) (v : Bool) : (s.setIme v).bus = s.bus := rfl

/-! ### setHalted -/

@[simp] theorem State.setHalted_regs (s : State) (v : Bool) : (s.setHalted v).cpu.regs = s.cpu.regs := rfl
@[simp] theorem State.setHalted_flags (s : State) (v : Bool) : (s.setHalted v).cpu.flags = s.cpu.flags := rfl
@[simp] theorem State.setHalted_sp (s : State) (v : Bool) : (s.setHalted v).cpu.sp = s.cpu.sp := rfl
@[simp] theorem State.setHalted_pc (s : State) (v : Bool) : (s.setHalted v).cpu.pc = s.cpu.pc := rfl
@[simp] theorem State.setHalted_ime (s : State) (v : Bool) : (s.setHalted v).cpu.ime = s.cpu.ime := rfl
@[simp] theorem State.setHalted_halted (s : State) (v : Bool) : (s.setHalted v).cpu.halted = v := rfl
@[simp] theorem State.setHalted_stopped (s : State) (v : Bool) : (s.setHalted v).cpu.stopped = s.cpu.stopped := rfl
@[simp] theorem State.setHalted_skipInc (s : State) (v : Bool) : (s.setHalted v).cpu.skipInc = s.cpu.skipInc := rfl
@[simp] theorem State.setHalted_ticks (s : State) (v : Bool) : (s.setHalted v).cpu.ticks = s.cpu.ticks := rfl
@[simp] theorem State.setHalted_fault (s : State) (v : Bool) : (s.setHalted v).cpu.fault = s.cpu.fault := rfl
@[simp] theorem State.setHalted_bus (s : State) (v : Bool) : (s.setHalted v).bus = s.bus := rfl

/-! ### setStopped -/

@[simp] theorem State.setStopped_regs (s : State) (v : Bool) : (s.setStopped v).cpu.regs = s.cpu.regs := rfl
@[simp] theorem State.setStopped_flags (s : State) (v : Bool) : (s.setStopped v).cpu.flags = s.cpu.flags := rfl
@[simp] theorem State.setStopped_sp (s : State) (v : Bool) : (s.setStopped v).cpu.sp = s.cpu.sp := rfl
@[simp] theorem State.setStopped_pc (s : State) (v : Bool) : (s.setStopped v).cpu.pc = s.cpu.pc := rfl
@[simp] theorem State.setStopped_ime (s : State) (v : Bool) : (s.setStopped v).cpu.ime = s.cpu.ime := rfl
@[simp] theorem State.setStopped_halted (s : State) (v : Bool) : (s.setStopped v).cpu.halted = s.cpu.halted := rfl
@[simp] theorem State.setStopped_stopped (s : State) (v : Bool) : (s.setStopped v).cpu.stopped = v := rfl
@[simp] theorem State.setStopped_skipInc (s : State) (v : Bool) : (s.setStopped v).cpu.skipInc = s.cpu.skipInc := rfl
@[simp] theorem State.setStopped_ticks (s : State) (v : Bool) : (s.setStopped v).cpu.ticks = s.cpu.ticks := rfl
@[simp] theorem State.setStopped_fault (s : State) (v : Bool) : (s.setStopped v).cpu.fault = s.cpu.fault := rfl
@[simp] theorem State.setStopped_bus (s : State) (v : Bool) : (s.setStopped v).bus = s.bus := rfl

/-! ### setSkipInc -/

@[simp] theorem State.setSkipInc_regs (s : State) (v : Bool) : (s.setSkipInc v).cpu.regs = s.cpu.regs := rfl
@[simp] theorem State.setSkipInc_flags (s : State) (v : Bool) : (s.setSkipInc v).cpu.flags = s.cpu.flags := rfl
@[simp] theorem State.setSkipInc_sp (s : State) (v : Bool) : (s.setSkipInc v).cpu.sp = s.cpu.sp := rfl
@[simp] theorem State.setSkipInc_pc (s : State) (v : Bool) : (s.setSkipInc v).cpu.pc = s.cpu.pc := rfl
@[simp] theorem State.setSkipInc_ime (s : State) (v : Bool) : (s.setSkipInc v).cpu.ime = s.cpu.ime := rfl
@[simp] theorem State.setSkipInc_halted (s : State) (v : Bool) : (s.setSkipInc v).cpu.halted = s.cpu.halted := rfl
@[simp] theorem State.setSkipInc_stopped (s : State) (v : Bool) : (s.setSkipInc v).cpu.stopped = s.cpu.stopped := rfl
@[simp] theorem State.setSkipInc_skipInc (s : State) (v : Bool) : (s.setSkipInc v).cpu.skipInc = v := rfl
@[simp] theorem State.setSkipInc_ticks (s : State) (v : Bool) : (s.setSkipInc v).cpu.ticks = s.cpu.ticks := rfl
@[simp] theorem State.setSkipInc_fault (s : State) (v : Bool) : (s.setSkipInc v).cpu.fault = s.cpu.fault := rfl
@[simp] theorem State.setSkipInc_bus (s : State) (v : Bool) : (s.setSkipInc v).bus = s.bus := rfl

/-! ### tick -/

@[simp] theorem State.tick_regs (s : State) (n : Nat) : (s.tick n).cpu.regs = s.cpu.regs := rfl
@[simp] theorem State.tick_flags (s : State) (n : Nat) : (s.tick n).cpu.flags = s.cpu.flags := rfl
@[simp] theorem State.tick_sp (s : State) (n : Nat) : (s.tick n).cpu.sp = s.cpu.sp := rfl
@[simp] theorem State.tick_pc (s : State) (n : Nat) : (s.tick n).cpu.pc = s.cpu.pc := rfl
@[simp] theorem State.tick_ime (s : State) (n : Nat) : (s.tick n).cpu.ime = s.cpu.ime := rfl
@[simp] theorem State.tick_halted (s : State) (n : Nat) : (s.tick n).cpu.halted = s.cpu.halted := rfl
@[simp] theorem State.tick_stopped (s : State) (n : Nat) : (s.tick n).cpu.stopped = s.cpu.stopped := rfl
@[simp] theorem State.tick_skipInc (s : State) (n : Nat) : (s.tick n).cpu.skipInc = s.cpu.skipInc := rfl
@[simp] theorem State.tick_ticks (s : State) (n : Nat) : (s.tick n).cpu.ticks = s.cpu.ticks + n := rfl
@[simp] theorem State.tick_fault (s : State) (n : Nat) : (s.tick n).cpu.fault = s.cpu.fault := rfl
@[simp] theorem State.tick_bus (s : State) (n : Nat) : (s.tick n).bus = s.bus := rfl

/-! ### raise -/

@[simp] theorem State.raise_regs (s : State) (f : Fault) : (s.raise f).cpu.regs = s.cpu.regs := rfl
@[simp] theorem State.raise_flags (s : State) (f : Fault) : (s.raise f).cpu.flags = s.cpu.flags := rfl
@[simp] theorem State.raise_sp (s : State) (f : Fault) : (s.raise f).cpu.sp = s.cpu.sp := rfl
@[simp] theorem State.raise_pc (s : State) (f : Fault) : (s.raise f).cpu.pc = s.cpu.pc := rfl
@[simp] theorem State.raise_ime (s : State) (f : Fault) : (s.raise f).cpu.ime = s.cpu.ime := rfl
@[simp] theorem State.raise_halted (s : State) (f : Fault) : (s.raise f).cpu.halted = s.cpu.halted := rfl
@[simp] theorem State.raise_stopped (s : State) (f : Fault) : (s.raise f).cpu.stopped = s.cpu.stopped := rfl
@[simp] theorem State.raise_skipInc (s : State) (f : Fault) : (s.raise f).cpu.skipInc = s.cpu.skipInc := rfl
@[simp] theorem State.raise_ticks (s : State) (f : Fault) : (s.raise f).cpu.ticks = s.cpu.ticks := rfl
@[simp] theorem State.raise_fault (s : State) (f : Fault) : (s.raise f).cpu.fault = some f := rfl
@[simp] theorem State.raise_bus (s : State) (f : Fault) : (s.raise f).bus = s.bus := rfl

/-! ### setBus -/

@[simp] theorem State.setBus_regs (s : State) (b : Bus) : (s.setBus b).cpu.regs = s.cpu.regs := rfl
@[simp] theorem State.setBus_flags (s : State) (b : Bus) : (s.setBus b).cpu.flags = s.cpu.flags := rfl
@[simp] theorem State.setBus_sp (s : State) (b : Bus) : (s.setBus b).cpu.sp = s.cpu.sp := rfl
@[simp] theorem State.setBus_pc (s : State) (b : Bus) : (s.setBus b).cpu.pc = s.cpu.pc := rfl
@[simp] theorem State.setBus_ime (s : State) (b : Bus) : (s.setBus b).cpu.ime = s.cpu.ime := rfl
@[simp] theorem State.setBus_halted (s : State) (b : Bus) : (s.setBus b).cpu.halted = s.cpu.halted := rfl
@[simp] theorem State.setBus_stopped (s : State) (b : Bus) : (s.setBus b).cpu.stopped = s.cpu.stopped := rfl
@[simp] theorem State.setBus_skipInc (s : State) (b : Bus) : (s.setBus b).cpu.skipInc = s.cpu.skipInc := rfl
@[simp] theorem State.setBus_ticks (s : State) (b : Bus) : (s.setBus b).cpu.ticks = s.cpu.ticks := rfl
@[simp] theorem State.setBus_fault (s : State) (b : Bus) : (s.setBus b).cpu.fault = s.cpu.fault := rfl
@[simp] theorem State.setBus_bus (s : State) (b : Bus) : (s.setBus b).bus = b := rfl

/-! ### setAf -/

@[simp] theorem State.setAf_regs (s : State) (v : Word) : (s.setAf v).cpu.regs = s.cpu.regs.set .a (hiByte v) := rfl
@[simp] theorem State.setAf_flags (s : State) (v : Word) : (s.setAf v).cpu.flags = .ofByte (loByte v) := rfl
@[simp] theorem State.setAf_sp (s : State) (v : Word) : (s.setAf v).cpu.sp = s.cpu.sp := rfl
@[simp] theorem State.setAf_pc (s : State) (v : Word) : (s.setAf v).cpu.pc = s.cpu.pc := rfl
@[simp] theorem State.setAf_ime (s : State) (v : Word) : (s.setAf v).cpu.ime = s.cpu.ime := rfl
@[simp] theorem State.setAf_halted (s : State) (v : Word) : (s.setAf v).cpu.halted = s.cpu.halted := rfl
@[simp] theorem State.setAf_stopped (s : State) (v : Word) : (s.setAf v).cpu.stopped = s.cpu.stopped := rfl
@[simp] theorem State.setAf_skipInc (s : State) (v : Word) : (s.setAf v).cpu.skipInc = s.cpu.skipInc := rfl
@[simp] theorem State.setAf_ticks (s : State) (v : Word) : (s.setAf v).cpu.ticks = s.cpu.ticks := rfl
@[simp] theorem State.setAf_fault (s : State) (v : Word) : (s.setAf v).cpu.fault = s.cpu.fault := rfl
@[simp] theorem State.setAf_bus (s : State) (v : Word) : (s.setAf v).bus = s.bus := rfl

/-! ### setPair: by the pair -/

@[simp] theorem State.setPair_flags (s : State) (p : Pair) (v : Word) : (s.setPair p v).cpu.flags = s.cpu.flags := by
  cases p <;> rfl
@[simp] theorem State.setPair_pc (s : State) (p : Pair) (v : Word) : (s.setPair p v).cpu.pc = s.cpu.pc := by
  cases p <;> rfl
@[simp] theorem State.setPair_ime (s : State) (p : Pair) (v : Word) : (s.setPair p v).cpu.ime = s.cpu.ime := by
  cases p <;> rfl
@[simp] theorem State.setPair_halted (s : State) (p : Pair) (v : Word) : (s.setPair p v).cpu.halted = s.cpu.halted := by
  cases p <;> rfl
@[simp] theorem State.setPair_stopped (s : State) (p : Pair) (v : Word) : (s.setPair p v).cpu.stopped = s.cpu.stopped := by
  cases p <;> rfl
@[simp] theorem State.setPair_skipInc (s : State) (p : Pair) (v : Word) : (s.setPair p v).cpu.skipInc = s.cpu.skipInc := by
  cases p <;> rfl
@[simp] theorem State.setPair_ticks (s : State) (p : Pair) (v : Word) : (s.setPair p v).cpu.ticks = s.cpu.ticks := by
  cases p <;> rfl
@[simp] theorem State.setPair_fault (s : State) (p : Pair) (v : Word) : (s.setPair p v).cpu.fault = s.cpu.fault := by
  cases p <;> rfl
@[simp] theorem State.setPair_bus (s : State) (p : Pair) (v : Word) : (s.setPair p v).bus = s.bus := by
  cases p <;> rfl

/-! ### The machine's tick costs: at least 1 (70_reset_and_hazards.md R371), and changed by no CPU update -/

theorem State.one_le_cost (s : State) (op : Nat) (taken : Bool) : 1 ≤ s.cost op taken := Nat.le_max_left _ _
theorem State.one_le_costSecondary (s : State) (sub : Nat) : 1 ≤ s.costSecondary sub := Nat.le_max_left _ _
theorem one_le_idleTicks (p : Config.Params) : 1 ≤ p.idleTicks := Nat.le_max_left _ _
theorem one_le_dispatchTicks (p : Config.Params) : 1 ≤ p.dispatchTicks := Nat.le_max_left _ _
@[simp] theorem State.setReg_cost (s : State) (r : Reg8) (v : Byte) : (s.setReg r v).cost = s.cost := rfl
@[simp] theorem State.setReg_costSecondary (s : State) (r : Reg8) (v : Byte) : (s.setReg r v).costSecondary = s.costSecondary := rfl
@[simp] theorem State.setSp_cost (s : State) (v : Word) : (s.setSp v).cost = s.cost := rfl
@[simp] theorem State.setSp_costSecondary (s : State) (v : Word) : (s.setSp v).costSecondary = s.costSecondary := rfl
@[simp] theorem State.setPc_cost (s : State) (v : Word) : (s.setPc v).cost = s.cost := rfl
@[simp] theorem State.setPc_costSecondary (s : State) (v : Word) : (s.setPc v).costSecondary = s.costSecondary := rfl
@[simp] theorem State.setFlags_cost (s : State) (f : Flags) : (s.setFlags f).cost = s.cost := rfl
@[simp] theorem State.setFlags_costSecondary (s : State) (f : Flags) : (s.setFlags f).costSecondary = s.costSecondary := rfl
@[simp] theorem State.setIme_cost (s : State) (v : Bool) : (s.setIme v).cost = s.cost := rfl
@[simp] theorem State.setIme_costSecondary (s : State) (v : Bool) : (s.setIme v).costSecondary = s.costSecondary := rfl
@[simp] theorem State.setHalted_cost (s : State) (v : Bool) : (s.setHalted v).cost = s.cost := rfl
@[simp] theorem State.setHalted_costSecondary (s : State) (v : Bool) : (s.setHalted v).costSecondary = s.costSecondary := rfl
@[simp] theorem State.setStopped_cost (s : State) (v : Bool) : (s.setStopped v).cost = s.cost := rfl
@[simp] theorem State.setStopped_costSecondary (s : State) (v : Bool) : (s.setStopped v).costSecondary = s.costSecondary := rfl
@[simp] theorem State.setSkipInc_cost (s : State) (v : Bool) : (s.setSkipInc v).cost = s.cost := rfl
@[simp] theorem State.setSkipInc_costSecondary (s : State) (v : Bool) : (s.setSkipInc v).costSecondary = s.costSecondary := rfl
@[simp] theorem State.tick_cost (s : State) (n : Nat) : (s.tick n).cost = s.cost := rfl
@[simp] theorem State.tick_costSecondary (s : State) (n : Nat) : (s.tick n).costSecondary = s.costSecondary := rfl
@[simp] theorem State.raise_cost (s : State) (f : Fault) : (s.raise f).cost = s.cost := rfl
@[simp] theorem State.raise_costSecondary (s : State) (f : Fault) : (s.raise f).costSecondary = s.costSecondary := rfl

/-- The palette of a register at reset is what a write of the same byte decodes to (10_state.md R47, 20_memory.md R71). -/
theorem Palette.ofRegister_eq_decode (p : Config.Params) (v : Byte) : Palette.ofRegister p v = Palette.decode p v := rfl

/-! ### Registers read back -/

/-- A register reads as what was written to it, another as before. -/
theorem Regs.get_set (g : Regs) (r q : Reg8) (v : Byte) : (g.set r v).get q = if q = r then v else g.get q := by
  cases r <;> cases q <;> rfl

@[simp] theorem Regs.get_set_self (g : Regs) (r : Reg8) (v : Byte) : (g.set r v).get r = v := by cases r <;> rfl

/-- A register written with what it holds changes nothing (the `y = z` forms of R141). -/
@[simp] theorem Regs.set_get (g : Regs) (r : Reg8) : g.set r (g.get r) = g := by cases r <;> rfl

@[simp] theorem State.reg_setReg_self (s : State) (r : Reg8) (v : Byte) : (s.setReg r v).reg r = v := by
  cases r <;> rfl

/-- The high byte of a word put together. -/
@[simp] theorem hiByte_word (h l : Byte) : hiByte (word h l) = h := by
  unfold hiByte word
  ext i hi
  simp
  grind

/-- The low byte of a word put together. -/
@[simp] theorem loByte_word (h l : Byte) : loByte (word h l) = l := by
  unfold loByte word
  ext i hi
  simp
  grind

/-- A word is its two bytes put together. -/
@[simp] theorem word_parts (v : Word) : word (hiByte v) (loByte v) = v := by
  unfold hiByte loByte word
  ext i hi
  simp only [BitVec.getElem_append]
  split <;> simp <;> grind

@[simp] theorem State.stackPair_setStackPair_self (s : State) (p : StackPair) (v : Word) :
    (s.setStackPair p v).stackPair p = v := by
  cases p <;> exact word_parts v

@[simp] theorem State.pair_setPair_self (s : State) (p : Pair) (v : Word) : (s.setPair p v).pair p = v := by
  cases p <;> first | exact word_parts v | rfl

end Sys2Proof.Machine
end

