-- ==== Sys2Proof/Laws/Run.lean ====
section
/-! SUPPORT. What an instruction and a Step can do to the bus: read bytes, write bytes, acknowledge an interrupt,
nothing else; and that both always answer a next state. A property of the bus that those keep is kept by all. -/

namespace Sys2Proof.Machine

/-- The bus that an access leaves, fatal or not. -/
def Access.after {α : Type} (x : Access α) : Bus :=
  match x with
  | .ok _ b => b
  | .fatal _ b => b

/-- A bus reached from another by byte accesses, in order. -/
inductive BusRun (b : Bus) : Bus → Prop where
  | refl : BusRun b b
  | read {c : Bus} (h : BusRun b c) (a : Word) : BusRun b (c.read a).after
  | write {c : Bus} (h : BusRun b c) (a : Word) (v : Byte) : BusRun b (c.write a v).after

/-- A property of the bus that every access keeps is kept along a run. -/
theorem BusRun.keeps {b c : Bus} (h : BusRun b c) (P : Bus → Prop) (hr : ∀ b a, P b → P (b.read a).after)
    (hw : ∀ b a v, P b → P (b.write a v).after) (hb : P b) : P c := by
  induction h with
  | refl => exact hb
  | read _ a ih => exact hr _ a ih
  | write _ a v ih => exact hw _ a v ih

theorem BusRun.trans {b c d : Bus} (h : BusRun b c) (k : BusRun c d) : BusRun b d := by
  induction k with
  | refl => exact h
  | read _ a ih => exact ih.read a
  | write _ a v ih => exact ih.write a v

/-- The state that an operation leaves, fatal or not. -/
def Res.state {α : Type} (x : Res α) : State :=
  match x with
  | .ok _ s => s
  | .fatal s => s

/-- An operation that goes only through byte accesses. -/
def Res.Runs {α : Type} (x : Res α) (b : Bus) : Prop := BusRun b x.state.bus

/-- An outcome that is a next state reached through byte accesses. -/
def Ends (b : Bus) (o : Out) : Prop := ∃ t, o = .next t ∧ BusRun b t.bus

theorem Res.Runs.bind {α β : Type} {x : Res α} {b : Bus} (h : x.Runs b) {f : α → State → Res β}
    (hf : ∀ v s, (f v s).Runs s.bus) : (x.bind f).Runs b := by
  cases x with
  | ok v s => exact h.trans (hf v s)
  | fatal s => exact h

theorem Res.Runs.finish {x : Res Unit} {b : Bus} (h : x.Runs b) (cost : Nat) : Ends b (x.finish cost) := by
  cases x with
  | ok v s => exact ⟨_, rfl, h⟩
  | fatal s => exact ⟨_, rfl, h⟩

theorem memRead_runs (a : Word) (s : State) : (memRead a s).Runs s.bus := by
  have h := BusRun.read (BusRun.refl (b := s.bus)) a
  unfold memRead
  cases e : s.bus.read a <;> rw [e] at h <;> exact h

theorem memWrite_runs (a : Word) (v : Byte) (s : State) : (memWrite a v s).Runs s.bus := by
  have h := BusRun.write (BusRun.refl (b := s.bus)) a v
  unfold memWrite
  cases e : s.bus.write a v <;> rw [e] at h <;> exact h

theorem ok_runs {α : Type} (v : α) (s : State) : (Res.ok v s).Runs s.bus := .refl

theorem memWrite16_runs (a v : Word) (s : State) : (memWrite16 a v s).Runs s.bus :=
  (memWrite_runs _ _ _).bind fun _ _ => memWrite_runs _ _ _

theorem push16_runs (v : Word) (s : State) : (push16 v s).Runs s.bus :=
  Res.Runs.bind (b := s.bus) (memWrite_runs _ _ (s.setSp (s.cpu.sp - 1))) fun _ s =>
    memWrite_runs _ _ (s.setSp (s.cpu.sp - 1))

theorem pop16_runs (s : State) : (pop16 s).Runs s.bus :=
  (memRead_runs _ _).bind fun _ s =>
    Res.Runs.bind (b := s.bus) (memRead_runs _ (s.setSp (s.cpu.sp + 1))) fun _ s => ok_runs _ (s.setSp (s.cpu.sp + 1))

theorem fetchOp_runs (s : State) : (fetchOp s).Runs s.bus :=
  (memRead_runs _ _).bind fun _ s => by
    show BusRun s.bus (if s.cpu.skipInc then s.setSkipInc false else s.setPc (s.cpu.pc + 1)).bus
    split <;> exact .refl

theorem fetch8_runs (s : State) : (fetch8 s).Runs s.bus :=
  (memRead_runs _ _).bind fun _ s => ok_runs _ (s.setPc (s.cpu.pc + 1))

theorem fetch16_runs (s : State) : (fetch16 s).Runs s.bus :=
  (fetch8_runs _).bind fun _ _ => (fetch8_runs _).bind fun _ s => ok_runs _ s

theorem fetchInstr_runs (s : State) : (fetchInstr s).Runs s.bus :=
  (fetchOp_runs s).bind fun op s => by
    split
    · exact .refl
    · exact (fetch8_runs s).bind fun _ s => ok_runs _ s
    · exact (fetch16_runs s).bind fun _ s => ok_runs _ s
    · exact (fetch8_runs s).bind fun _ s => ok_runs _ s

/-! ### The shapes -/

theorem done_ends {b : Bus} (cost : Nat) (s : State) (h : s.bus = b) : Ends b (done cost s) :=
  ⟨_, rfl, h ▸ .refl⟩

theorem withByte_ends (cost : Nat) (a : Word) (f : Byte → State → State) (s : State)
    (hf : ∀ v s, (f v s).bus = s.bus) : Ends s.bus (withByte cost a f s) :=
  Res.Runs.finish (Res.Runs.bind (memRead_runs a s) (f := fun v t => .ok () (f v t))
    fun v t => show BusRun t.bus (f v t).bus from hf v t ▸ .refl) cost

theorem storeByte_ends (cost : Nat) (a : Word) (v : Byte) (f : State → State) (s : State)
    (hf : ∀ s, (f s).bus = s.bus) : Ends s.bus (storeByte cost a v f s) :=
  Res.Runs.finish (Res.Runs.bind (memWrite_runs a v s) (f := fun _ t => .ok () (f t))
    fun _ t => show BusRun t.bus (f t).bus from hf t ▸ .refl) cost

theorem modifyHl_ends (cost : Nat) (f : Byte → Flags → Byte × Flags) (s : State) : Ends s.bus (modifyHl cost f s) :=
  Res.Runs.finish (Res.Runs.bind (memRead_runs _ s) fun old s => Res.Runs.bind (memWrite_runs _ _ s)
    fun _ t => ok_runs _ (t.setFlags (f old s.cpu.flags).2)) cost

theorem modifyReg_ends (cost : Nat) (r : Reg8) (f : Byte → Flags → Byte × Flags) (s : State) :
    Ends s.bus (modifyReg cost r f s) := done_ends _ _ rfl

theorem jumpIf_ends (taken : Bool) (cost : Bool → Nat) (target : Word) (s : State) :
    Ends s.bus (jumpIf taken cost target s) := by
  refine done_ends _ _ ?_
  split <;> rfl

theorem callTo_ends (cost : Nat) (target : Word) (s : State) : Ends s.bus (callTo cost target s) :=
  ((push16_runs _ s).bind fun _ s => ok_runs _ (s.setPc target)).finish cost

theorem returnTo_ends (cost : Nat) (s : State) : Ends s.bus (returnTo cost s) :=
  ((pop16_runs s).bind fun v s => ok_runs _ (s.setPc v)).finish cost

theorem pushWord_ends (cost : Nat) (v : Word) (s : State) : Ends s.bus (pushWord cost v s) :=
  (push16_runs v s).finish cost

theorem popWord_ends (cost : Nat) (f : Word → State → State) (s : State) (hf : ∀ v s, (f v s).bus = s.bus) :
    Ends s.bus (popWord cost f s) :=
  Res.Runs.finish (Res.Runs.bind (pop16_runs s) (f := fun v t => .ok () (f v t))
    fun v t => show BusRun t.bus (f v t).bus from hf v t ▸ .refl) cost

theorem callCond_ends (cost : Bool → Nat) (cc : Cond) (nn : Word) (s : State) :
    Ends s.bus (callCond cost cc nn s) := by
  unfold callCond
  split
  · exact callTo_ends _ _ _
  · exact done_ends _ _ rfl

theorem returnCond_ends (cost : Bool → Nat) (cc : Cond) (s : State) : Ends s.bus (returnCond cost cc s) := by
  unfold returnCond
  split
  · exact returnTo_ends _ _
  · exact done_ends _ _ rfl

theorem haltWith_bus (s : State) (halts : Bool) : (s.haltWith halts).bus = s.bus := by
  unfold State.haltWith
  simp only []
  split <;> split <;> rfl

theorem reti_ends (cost : Nat) (s : State) : Ends s.bus ((returnFromInterrupt s).finish cost) :=
  Res.Runs.finish (Res.Runs.bind (pop16_runs s) fun v s => ok_runs _ ((s.setPc v).setIme true)) cost

/-- Every instruction answers a next state, whose bus is reached through byte accesses. -/
theorem exec_ends (i : Instr) (s : State) : Ends s.bus (exec i s) := by
  cases i with
  | nop | ld_b_n | add_hl_bc | ld_c_n | stop | ld_d_n | add_hl_de | ld_e_n | ld_h_n | add_hl_hl | ld_l_n | cpl
    | scf | add_hl_sp | ld_a_n | ccf | ld_b_b | ld_b_c | ld_b_d | ld_b_e | ld_b_h | ld_b_l | ld_b_a | ld_c_b
    | ld_c_c | ld_c_d | ld_c_e | ld_c_h | ld_c_l | ld_c_a | ld_d_b | ld_d_c | ld_d_d | ld_d_e | ld_d_h | ld_d_l
    | ld_d_a | ld_e_b | ld_e_c | ld_e_d | ld_e_e | ld_e_h | ld_e_l | ld_e_a | ld_h_b | ld_h_c | ld_h_d | ld_h_e
    | ld_h_h | ld_h_l | ld_h_a | ld_l_b | ld_l_c | ld_l_d | ld_l_e | ld_l_h | ld_l_l | ld_l_a | ld_a_b | ld_a_c
    | ld_a_d | ld_a_e | ld_a_h | ld_a_l | ld_a_a | add_a_b | add_a_c | add_a_d | add_a_e | add_a_h | add_a_l
    | add_a_a | adc_a_b | adc_a_c | adc_a_d | adc_a_e | adc_a_h | adc_a_l | adc_a_a | sub_b | sub_c | sub_d | sub_e
    | sub_h | sub_l | sub_a | sbc_a_b | sbc_a_c | sbc_a_d | sbc_a_e | sbc_a_h | sbc_a_l | sbc_a_a | and_b | and_c
    | and_d | and_e | and_h | and_l | and_a | xor_b | xor_c | xor_d | xor_e | xor_h | xor_l | xor_a | or_b | or_c
    | or_d | or_e | or_h | or_l | or_a | cp_b | cp_c | cp_d | cp_e | cp_h | cp_l | cp_a | jp_nn | add_a_n | adc_a_n
    | sub_n | sbc_a_n | and_n | add_sp_e | jp_hl | xor_n | di | or_n | ld_hl_sp_e | ld_sp_hl | ei | cp_n | bit_0_b
    | bit_0_c | bit_0_d | bit_0_e | bit_0_h | bit_0_l | bit_0_a | bit_1_b | bit_1_c | bit_1_d | bit_1_e | bit_1_h
    | bit_1_l | bit_1_a | bit_2_b | bit_2_c | bit_2_d | bit_2_e | bit_2_h | bit_2_l | bit_2_a | bit_3_b | bit_3_c
    | bit_3_d | bit_3_e | bit_3_h | bit_3_l | bit_3_a | bit_4_b | bit_4_c | bit_4_d | bit_4_e | bit_4_h | bit_4_l
    | bit_4_a | bit_5_b | bit_5_c | bit_5_d | bit_5_e | bit_5_h | bit_5_l | bit_5_a | bit_6_b | bit_6_c | bit_6_d
    | bit_6_e | bit_6_h | bit_6_l | bit_6_a | bit_7_b | bit_7_c | bit_7_d | bit_7_e | bit_7_h | bit_7_l | bit_7_a
    | res_0_b | res_0_c | res_0_d | res_0_e | res_0_h | res_0_l | res_0_a | res_1_b | res_1_c | res_1_d | res_1_e
    | res_1_h | res_1_l | res_1_a | res_2_b | res_2_c | res_2_d | res_2_e | res_2_h | res_2_l | res_2_a | res_3_b
    | res_3_c | res_3_d | res_3_e | res_3_h | res_3_l | res_3_a | res_4_b | res_4_c | res_4_d | res_4_e | res_4_h
    | res_4_l | res_4_a | res_5_b | res_5_c | res_5_d | res_5_e | res_5_h | res_5_l | res_5_a | res_6_b | res_6_c
    | res_6_d | res_6_e | res_6_h | res_6_l | res_6_a | res_7_b | res_7_c | res_7_d | res_7_e | res_7_h | res_7_l
    | res_7_a | set_0_b | set_0_c | set_0_d | set_0_e | set_0_h | set_0_l | set_0_a | set_1_b | set_1_c | set_1_d
    | set_1_e | set_1_h | set_1_l | set_1_a | set_2_b | set_2_c | set_2_d | set_2_e | set_2_h | set_2_l | set_2_a
    | set_3_b | set_3_c | set_3_d | set_3_e | set_3_h | set_3_l | set_3_a | set_4_b | set_4_c | set_4_d | set_4_e
    | set_4_h | set_4_l | set_4_a | set_5_b | set_5_c | set_5_d | set_5_e | set_5_h | set_5_l | set_5_a | set_6_b
    | set_6_c | set_6_d | set_6_e | set_6_h | set_6_l | set_6_a | set_7_b | set_7_c | set_7_d | set_7_e | set_7_h
    | set_7_l | set_7_a =>
    exact done_ends _ _ rfl
  | ld_bc_nn | inc_bc | dec_bc | ld_de_nn | inc_de | dec_de | ld_hl_nn | inc_hl | dec_hl | ld_sp_nn | inc_sp
    | dec_sp =>
    exact done_ends _ _ (State.setPair_bus _ _ _)
  | ld_mbc_a | ld_mde_a | ld_mhli_a | ld_mhld_a | ld_mhl_n | ld_mhl_b | ld_mhl_c | ld_mhl_d | ld_mhl_e | ld_mhl_h
    | ld_mhl_l | ld_mhl_a | ldh_mn_a | ldh_mc_a | ld_mnn_a =>
    exact storeByte_ends _ _ _ _ _ (fun _ => rfl)
  | inc_b | dec_b | rlca | inc_c | dec_c | rrca | inc_d | dec_d | rla | inc_e | dec_e | rra | inc_h | dec_h | daa
    | inc_l | dec_l | inc_a | dec_a | rlc_b | rlc_c | rlc_d | rlc_e | rlc_h | rlc_l | rlc_a | rrc_b | rrc_c | rrc_d
    | rrc_e | rrc_h | rrc_l | rrc_a | rl_b | rl_c | rl_d | rl_e | rl_h | rl_l | rl_a | rr_b | rr_c | rr_d | rr_e
    | rr_h | rr_l | rr_a | sla_b | sla_c | sla_d | sla_e | sla_h | sla_l | sla_a | sra_b | sra_c | sra_d | sra_e
    | sra_h | sra_l | sra_a | swap_b | swap_c | swap_d | swap_e | swap_h | swap_l | swap_a | srl_b | srl_c | srl_d
    | srl_e | srl_h | srl_l | srl_a =>
    exact modifyReg_ends _ _ _ _
  | ld_mnn_sp =>
    exact Res.Runs.finish (memWrite16_runs _ _ s) _
  | ld_a_mbc | ld_a_mde | ld_a_mhli | ld_a_mhld | ld_b_mhl | ld_c_mhl | ld_d_mhl | ld_e_mhl | ld_h_mhl | ld_l_mhl
    | ld_a_mhl | add_a_mhl | adc_a_mhl | sub_mhl | sbc_a_mhl | and_mhl | xor_mhl | or_mhl | cp_mhl | ldh_a_mn
    | ldh_a_mc | ld_a_mnn | bit_0_mhl | bit_1_mhl | bit_2_mhl | bit_3_mhl | bit_4_mhl | bit_5_mhl | bit_6_mhl
    | bit_7_mhl =>
    exact withByte_ends _ _ _ _ (fun _ _ => rfl)
  | jr_e | jr_nz_e | jr_z_e | jr_nc_e | jr_c_e | jp_nz_nn | jp_z_nn | jp_nc_nn | jp_c_nn =>
    exact jumpIf_ends _ _ _ _
  | inc_mhl | dec_mhl | rlc_mhl | rrc_mhl | rl_mhl | rr_mhl | sla_mhl | sra_mhl | swap_mhl | srl_mhl | res_0_mhl
    | res_1_mhl | res_2_mhl | res_3_mhl | res_4_mhl | res_5_mhl | res_6_mhl | res_7_mhl | set_0_mhl | set_1_mhl
    | set_2_mhl | set_3_mhl | set_4_mhl | set_5_mhl | set_6_mhl | set_7_mhl =>
    exact modifyHl_ends _ _ _
  | halt =>
    exact done_ends _ _ (haltWith_bus _ _)
  | ret_nz | ret_z | ret_nc | ret_c =>
    exact returnCond_ends _ _ _
  | pop_bc | pop_de | pop_hl | pop_af =>
    exact popWord_ends _ _ _ (fun _ _ => rfl)
  | call_nz_nn | call_z_nn | call_nc_nn | call_c_nn =>
    exact callCond_ends _ _ _ _
  | push_bc | push_de | push_hl | push_af =>
    exact pushWord_ends _ _ _
  | rst_00 | call_nn | rst_08 | rst_10 | rst_18 | rst_20 | rst_28 | rst_30 | rst_38 =>
    exact callTo_ends _ _ _
  | ret =>
    exact returnTo_ends _ _
  | illegal =>
    exact ⟨_, rfl, .refl⟩
  | reti =>
    exact reti_ends _ _

/-! ### Interrupts and Steps -/

theorem takeInterrupt_ends (i : Fin 5) (s : State) : Ends (s.bus.acknowledge i) (takeInterrupt i s) :=
  Res.Runs.finish (Res.Runs.bind
    (push16_runs _ ((((s.setBus (s.bus.acknowledge i)).setIme false).setHalted false).setStopped false))
    fun _ s => ok_runs _ (s.setPc (Config.intVector i))) _

@[simp] theorem State.wake_bus (s : State) : s.wake.bus = s.bus := by
  unfold State.wake; split <;> rfl

/-- Every Step answers a next state, whose bus is reached through byte accesses, from the bus as it was or as the
acknowledgement of an interrupt left it. -/
theorem step_ends (s : State) : ∃ t, step s = .next t ∧
    (BusRun s.bus t.bus ∨ ∃ i, BusRun (s.bus.acknowledge i) t.bus) := by
  unfold step
  split
  · exact ⟨s, rfl, .inl .refl⟩
  · split
    · rename_i i _
      obtain ⟨t, e, h⟩ := takeInterrupt_ends i s.wake
      rw [State.wake_bus] at h
      exact ⟨t, e, .inr ⟨i, h⟩⟩
    · split
      · exact ⟨_, rfl, .inl (by rw [State.tick_bus, State.wake_bus]; exact .refl)⟩
      · have hf := fetchInstr_runs s.wake
        rw [State.wake_bus] at hf
        split
        · rename_i i t e
          rw [e] at hf
          obtain ⟨u, eu, hu⟩ := exec_ends i t
          exact ⟨u, eu, .inl (hf.trans hu)⟩
        · rename_i t e
          rw [e] at hf
          exact ⟨t, rfl, .inl hf⟩

/-- A property of the bus that every access and every acknowledgement keeps is kept by a Step. -/
theorem step_keeps (P : Bus → Prop) (hr : ∀ b a, P b → P (b.read a).after)
    (hw : ∀ b a v, P b → P (b.write a v).after) (ha : ∀ b i, P b → P (b.acknowledge i)) {s t : State}
    (e : step s = .next t) (h : P s.bus) : P t.bus := by
  obtain ⟨u, eu, hu⟩ := step_ends s
  cases e.symm.trans eu
  rcases hu with hu | ⟨i, hu⟩
  · exact hu.keeps P hr hw h
  · exact hu.keeps P hr hw (ha _ i h)

/-- A property of the bus that every access keeps is kept by an instruction. -/
theorem exec_keeps (P : Bus → Prop) (hr : ∀ b a, P b → P (b.read a).after)
    (hw : ∀ b a v, P b → P (b.write a v).after) {i : Instr} {s t : State} (e : exec i s = .next t) (h : P s.bus) :
    P t.bus := by
  obtain ⟨u, eu, hu⟩ := exec_ends i s
  cases e.symm.trans eu
  exact hu.keeps P hr hw h

end Sys2Proof.Machine
end

