-- ==== Sys2Proof/Laws/Control.lean ====
section
/-! SUPPORT. What an instruction does to the control bits of the CPU, to the ticks and to the fatal error: but for
DI, EI, RETI, HALT and STOP none changes a control bit; each adds at least one tick or records a fatal error. -/

namespace Sys2Proof.Machine

/-- The control bits of two states agree. -/
def State.Same (s t : State) : Prop :=
  t.cpu.ime = s.cpu.ime ∧ t.cpu.halted = s.cpu.halted ∧ t.cpu.stopped = s.cpu.stopped ∧ t.cpu.skipInc = s.cpu.skipInc

/-- Time passes without a fatal error, or a fatal error is recorded and no time passes. -/
def State.Passes (s t : State) : Prop :=
  (t.cpu.fault = s.cpu.fault ∧ s.cpu.ticks + 1 ≤ t.cpu.ticks) ∨ (t.cpu.fault.isSome = true ∧ t.cpu.ticks = s.cpu.ticks)

/-- An operation inside an instruction: the control bits and the ticks stay; only its end in a fatal error records one. -/
def Res.Calm {α : Type} (x : Res α) (s : State) : Prop :=
  match x with
  | .ok _ t => s.Same t ∧ t.cpu.ticks = s.cpu.ticks ∧ t.cpu.fault = s.cpu.fault
  | .fatal t => s.Same t ∧ t.cpu.ticks = s.cpu.ticks ∧ t.cpu.fault.isSome = true

/-- What a whole instruction does. -/
def Goes (s : State) (o : Out) : Prop := ∃ t, o = .next t ∧ s.Same t ∧ s.Passes t

theorem Res.Calm.bind {α β : Type} {x : Res α} {s : State} (h : x.Calm s) {f : α → State → Res β}
    (hf : ∀ v t, (f v t).Calm t) : (x.bind f).Calm s := by
  cases x with
  | fatal t => exact h
  | ok v t =>
    have k := hf v t
    obtain ⟨⟨a, b, c, d⟩, e, g⟩ := h
    show (f v t).Calm s
    cases q : f v t with
    | ok w u =>
      rw [q] at k
      obtain ⟨⟨a', b', c', d'⟩, e', g'⟩ := k
      exact ⟨⟨a'.trans a, b'.trans b, c'.trans c, d'.trans d⟩, e'.trans e, g'.trans g⟩
    | fatal u =>
      rw [q] at k
      obtain ⟨⟨a', b', c', d'⟩, e', g'⟩ := k
      exact ⟨⟨a'.trans a, b'.trans b, c'.trans c, d'.trans d⟩, e'.trans e, g'⟩

theorem Res.Calm.finish {x : Res Unit} {s : State} (h : x.Calm s) {cost : Nat} (hc : 1 ≤ cost) :
    Goes s (x.finish cost) := by
  cases x with
  | ok v t => exact ⟨_, rfl, h.1, .inl ⟨h.2.2, by rw [State.tick_ticks, h.2.1]; omega⟩⟩
  | fatal t => exact ⟨_, rfl, h.1, .inr ⟨h.2.2, h.2.1⟩⟩

/-- A change of the state that keeps the control bits, the ticks and the fatal error. -/
def State.Quiet (s t : State) : Prop := s.Same t ∧ t.cpu.ticks = s.cpu.ticks ∧ t.cpu.fault = s.cpu.fault

theorem State.quiet_refl (s : State) : s.Quiet s := ⟨⟨rfl, rfl, rfl, rfl⟩, rfl, rfl⟩

theorem ok_calm {α : Type} (v : α) {s : State} (t : State) (h : s.Quiet t) : (Res.ok v t).Calm s := h

theorem memRead_calm (a : Word) (s : State) : (memRead a s).Calm s := by
  unfold memRead
  cases s.bus.read a <;> exact ⟨⟨rfl, rfl, rfl, rfl⟩, rfl, rfl⟩

theorem memWrite_calm (a : Word) (v : Byte) (s : State) : (memWrite a v s).Calm s := by
  unfold memWrite
  cases s.bus.write a v <;> exact ⟨⟨rfl, rfl, rfl, rfl⟩, rfl, rfl⟩

theorem memWrite16_calm (a v : Word) (s : State) : (memWrite16 a v s).Calm s :=
  (memWrite_calm _ _ _).bind fun _ _ => memWrite_calm _ _ _

theorem push16_calm (v : Word) (s : State) : (push16 v s).Calm s :=
  Res.Calm.bind (s := s) (memWrite_calm _ _ (s.setSp (s.cpu.sp - 1))) fun _ s =>
    memWrite_calm _ _ (s.setSp (s.cpu.sp - 1))

theorem pop16_calm (s : State) : (pop16 s).Calm s :=
  (memRead_calm _ _).bind fun _ s =>
    Res.Calm.bind (s := s) (memRead_calm _ (s.setSp (s.cpu.sp + 1))) fun _ _ =>
      ⟨⟨rfl, rfl, rfl, rfl⟩, rfl, rfl⟩

/-! ### The shapes -/

theorem done_goes {cost : Nat} (hc : 1 ≤ cost) {s t : State} (h : s.Quiet t) : Goes s (done cost t) :=
  ⟨_, rfl, h.1, .inl ⟨h.2.2, by rw [State.tick_ticks, h.2.1]; omega⟩⟩

theorem withByte_goes {cost : Nat} (hc : 1 ≤ cost) (a : Word) (f : Byte → State → State) (s : State)
    (hf : ∀ v t, State.Quiet t (f v t)) : Goes s (withByte cost a f s) :=
  Res.Calm.finish (Res.Calm.bind (memRead_calm a s) (f := fun v t => .ok () (f v t)) hf) hc

theorem storeByte_goes {cost : Nat} (hc : 1 ≤ cost) (a : Word) (v : Byte) (f : State → State) (s : State)
    (hf : ∀ t, State.Quiet t (f t)) : Goes s (storeByte cost a v f s) :=
  Res.Calm.finish (Res.Calm.bind (memWrite_calm a v s) (f := fun _ t => .ok () (f t)) fun _ t => hf t) hc

theorem modifyHl_goes {cost : Nat} (hc : 1 ≤ cost) (f : Byte → Flags → Byte × Flags) (s : State) :
    Goes s (modifyHl cost f s) :=
  Res.Calm.finish (Res.Calm.bind (memRead_calm _ s) fun old s => Res.Calm.bind (memWrite_calm _ _ s)
    fun _ t => ok_calm () (t.setFlags (f old s.cpu.flags).2) ⟨⟨rfl, rfl, rfl, rfl⟩, rfl, rfl⟩) hc

theorem callTo_goes {cost : Nat} (hc : 1 ≤ cost) (target : Word) (s : State) : Goes s (callTo cost target s) :=
  ((push16_calm _ s).bind fun _ s => ok_calm () (s.setPc target) ⟨⟨rfl, rfl, rfl, rfl⟩, rfl, rfl⟩).finish hc

theorem returnTo_goes {cost : Nat} (hc : 1 ≤ cost) (s : State) : Goes s (returnTo cost s) :=
  ((pop16_calm s).bind fun v s => ok_calm () (s.setPc v) ⟨⟨rfl, rfl, rfl, rfl⟩, rfl, rfl⟩).finish hc

theorem popWord_goes {cost : Nat} (hc : 1 ≤ cost) (f : Word → State → State) (s : State)
    (hf : ∀ v t, State.Quiet t (f v t)) : Goes s (popWord cost f s) :=
  Res.Calm.finish (Res.Calm.bind (pop16_calm s) (f := fun v t => .ok () (f v t)) hf) hc

theorem jumpIf_goes (taken : Bool) {cost : Bool → Nat} (hc : ∀ t, 1 ≤ cost t) (target : Word) (s : State) :
    Goes s (jumpIf taken cost target s) := by
  refine done_goes (hc _) ?_
  split <;> exact s.quiet_refl

theorem callCond_goes {cost : Bool → Nat} (hc : ∀ t, 1 ≤ cost t) (cc : Cond) (nn : Word) (s : State) :
    Goes s (callCond cost cc nn s) := by
  unfold callCond
  split
  · exact callTo_goes (hc _) _ _
  · exact done_goes (hc _) s.quiet_refl

theorem returnCond_goes {cost : Bool → Nat} (hc : ∀ t, 1 ≤ cost t) (cc : Cond) (s : State) :
    Goes s (returnCond cost cc s) := by
  unfold returnCond
  split
  · exact returnTo_goes (hc _) _
  · exact done_goes (hc _) s.quiet_refl

theorem setPair_quiet (s : State) (p : Pair) (v : Word) : s.Quiet (s.setPair p v) := by
  cases p <;> exact s.quiet_refl

/-- An instruction other than the five that write a control bit. -/
def Instr.plain (i : Instr) : Bool := i ≠ .di && i ≠ .ei && i ≠ .reti && i ≠ .halt && !(i matches .stop _)

/-- Every instruction but DI, EI, RETI, HALT and STOP leaves the control bits. -/
theorem exec_goes (i : Instr) (s : State) (h : Instr.plain i = true) : Goes s (exec i s) := by
  cases i with
  | nop | inc_b | dec_b | ld_b_n | rlca | add_hl_bc | inc_c | dec_c | ld_c_n | rrca | inc_d | dec_d | ld_d_n | rla
    | add_hl_de | inc_e | dec_e | ld_e_n | rra | inc_h | dec_h | ld_h_n | daa | add_hl_hl | inc_l | dec_l | ld_l_n
    | cpl | scf | add_hl_sp | inc_a | dec_a | ld_a_n | ccf | ld_b_b | ld_b_c | ld_b_d | ld_b_e | ld_b_h | ld_b_l
    | ld_b_a | ld_c_b | ld_c_c | ld_c_d | ld_c_e | ld_c_h | ld_c_l | ld_c_a | ld_d_b | ld_d_c | ld_d_d | ld_d_e
    | ld_d_h | ld_d_l | ld_d_a | ld_e_b | ld_e_c | ld_e_d | ld_e_e | ld_e_h | ld_e_l | ld_e_a | ld_h_b | ld_h_c
    | ld_h_d | ld_h_e | ld_h_h | ld_h_l | ld_h_a | ld_l_b | ld_l_c | ld_l_d | ld_l_e | ld_l_h | ld_l_l | ld_l_a
    | ld_a_b | ld_a_c | ld_a_d | ld_a_e | ld_a_h | ld_a_l | ld_a_a | add_a_b | add_a_c | add_a_d | add_a_e
    | add_a_h | add_a_l | add_a_a | adc_a_b | adc_a_c | adc_a_d | adc_a_e | adc_a_h | adc_a_l | adc_a_a | sub_b
    | sub_c | sub_d | sub_e | sub_h | sub_l | sub_a | sbc_a_b | sbc_a_c | sbc_a_d | sbc_a_e | sbc_a_h | sbc_a_l
    | sbc_a_a | and_b | and_c | and_d | and_e | and_h | and_l | and_a | xor_b | xor_c | xor_d | xor_e | xor_h
    | xor_l | xor_a | or_b | or_c | or_d | or_e | or_h | or_l | or_a | cp_b | cp_c | cp_d | cp_e | cp_h | cp_l
    | cp_a | jp_nn | add_a_n | adc_a_n | sub_n | sbc_a_n | and_n | add_sp_e | jp_hl | xor_n | or_n | ld_hl_sp_e
    | ld_sp_hl | cp_n | rlc_b | rlc_c | rlc_d | rlc_e | rlc_h | rlc_l | rlc_a | rrc_b | rrc_c | rrc_d | rrc_e
    | rrc_h | rrc_l | rrc_a | rl_b | rl_c | rl_d | rl_e | rl_h | rl_l | rl_a | rr_b | rr_c | rr_d | rr_e | rr_h
    | rr_l | rr_a | sla_b | sla_c | sla_d | sla_e | sla_h | sla_l | sla_a | sra_b | sra_c | sra_d | sra_e | sra_h
    | sra_l | sra_a | swap_b | swap_c | swap_d | swap_e | swap_h | swap_l | swap_a | srl_b | srl_c | srl_d | srl_e
    | srl_h | srl_l | srl_a | bit_0_b | bit_0_c | bit_0_d | bit_0_e | bit_0_h | bit_0_l | bit_0_a | bit_1_b
    | bit_1_c | bit_1_d | bit_1_e | bit_1_h | bit_1_l | bit_1_a | bit_2_b | bit_2_c | bit_2_d | bit_2_e | bit_2_h
    | bit_2_l | bit_2_a | bit_3_b | bit_3_c | bit_3_d | bit_3_e | bit_3_h | bit_3_l | bit_3_a | bit_4_b | bit_4_c
    | bit_4_d | bit_4_e | bit_4_h | bit_4_l | bit_4_a | bit_5_b | bit_5_c | bit_5_d | bit_5_e | bit_5_h | bit_5_l
    | bit_5_a | bit_6_b | bit_6_c | bit_6_d | bit_6_e | bit_6_h | bit_6_l | bit_6_a | bit_7_b | bit_7_c | bit_7_d
    | bit_7_e | bit_7_h | bit_7_l | bit_7_a | res_0_b | res_0_c | res_0_d | res_0_e | res_0_h | res_0_l | res_0_a
    | res_1_b | res_1_c | res_1_d | res_1_e | res_1_h | res_1_l | res_1_a | res_2_b | res_2_c | res_2_d | res_2_e
    | res_2_h | res_2_l | res_2_a | res_3_b | res_3_c | res_3_d | res_3_e | res_3_h | res_3_l | res_3_a | res_4_b
    | res_4_c | res_4_d | res_4_e | res_4_h | res_4_l | res_4_a | res_5_b | res_5_c | res_5_d | res_5_e | res_5_h
    | res_5_l | res_5_a | res_6_b | res_6_c | res_6_d | res_6_e | res_6_h | res_6_l | res_6_a | res_7_b | res_7_c
    | res_7_d | res_7_e | res_7_h | res_7_l | res_7_a | set_0_b | set_0_c | set_0_d | set_0_e | set_0_h | set_0_l
    | set_0_a | set_1_b | set_1_c | set_1_d | set_1_e | set_1_h | set_1_l | set_1_a | set_2_b | set_2_c | set_2_d
    | set_2_e | set_2_h | set_2_l | set_2_a | set_3_b | set_3_c | set_3_d | set_3_e | set_3_h | set_3_l | set_3_a
    | set_4_b | set_4_c | set_4_d | set_4_e | set_4_h | set_4_l | set_4_a | set_5_b | set_5_c | set_5_d | set_5_e
    | set_5_h | set_5_l | set_5_a | set_6_b | set_6_c | set_6_d | set_6_e | set_6_h | set_6_l | set_6_a | set_7_b
    | set_7_c | set_7_d | set_7_e | set_7_h | set_7_l | set_7_a =>
    exact done_goes (Nat.le_max_left _ _) ⟨⟨rfl, rfl, rfl, rfl⟩, rfl, rfl⟩
  | ld_bc_nn | inc_bc | dec_bc | ld_de_nn | inc_de | dec_de | ld_hl_nn | inc_hl | dec_hl | ld_sp_nn | inc_sp
    | dec_sp =>
    exact done_goes (Nat.le_max_left _ _) (setPair_quiet _ _ _)
  | ld_mbc_a | ld_mde_a | ld_mhli_a | ld_mhld_a | ld_mhl_n | ld_mhl_b | ld_mhl_c | ld_mhl_d | ld_mhl_e | ld_mhl_h
    | ld_mhl_l | ld_mhl_a | ldh_mn_a | ldh_mc_a | ld_mnn_a =>
    exact storeByte_goes (Nat.le_max_left _ _) _ _ _ _ (fun _ => ⟨⟨rfl, rfl, rfl, rfl⟩, rfl, rfl⟩)
  | ld_mnn_sp =>
    exact Res.Calm.finish (memWrite16_calm _ _ s) (Nat.le_max_left _ _)
  | ld_a_mbc | ld_a_mde | ld_a_mhli | ld_a_mhld | ld_b_mhl | ld_c_mhl | ld_d_mhl | ld_e_mhl | ld_h_mhl | ld_l_mhl
    | ld_a_mhl | add_a_mhl | adc_a_mhl | sub_mhl | sbc_a_mhl | and_mhl | xor_mhl | or_mhl | cp_mhl | ldh_a_mn
    | ldh_a_mc | ld_a_mnn | bit_0_mhl | bit_1_mhl | bit_2_mhl | bit_3_mhl | bit_4_mhl | bit_5_mhl | bit_6_mhl
    | bit_7_mhl =>
    exact withByte_goes (Nat.le_max_left _ _) _ _ _ (fun _ _ => ⟨⟨rfl, rfl, rfl, rfl⟩, rfl, rfl⟩)
  | stop | halt | reti | di | ei =>
    exact absurd h (by simp [Instr.plain])
  | jr_e | jr_nz_e | jr_z_e | jr_nc_e | jr_c_e | jp_nz_nn | jp_z_nn | jp_nc_nn | jp_c_nn =>
    exact jumpIf_goes _ (s.one_le_cost _) _ _
  | inc_mhl | dec_mhl | rlc_mhl | rrc_mhl | rl_mhl | rr_mhl | sla_mhl | sra_mhl | swap_mhl | srl_mhl | res_0_mhl
    | res_1_mhl | res_2_mhl | res_3_mhl | res_4_mhl | res_5_mhl | res_6_mhl | res_7_mhl | set_0_mhl | set_1_mhl
    | set_2_mhl | set_3_mhl | set_4_mhl | set_5_mhl | set_6_mhl | set_7_mhl =>
    exact modifyHl_goes (Nat.le_max_left _ _) _ _
  | ret_nz | ret_z | ret_nc | ret_c =>
    exact returnCond_goes (s.one_le_cost _) _ _
  | pop_bc | pop_de | pop_hl | pop_af =>
    exact popWord_goes (Nat.le_max_left _ _) _ _ (fun _ _ => ⟨⟨rfl, rfl, rfl, rfl⟩, rfl, rfl⟩)
  | call_nz_nn | call_z_nn | call_nc_nn | call_c_nn =>
    exact callCond_goes (s.one_le_cost _) _ _ _
  | push_bc | push_de | push_hl | push_af =>
    exact (push16_calm _ s).finish (Nat.le_max_left _ _)
  | rst_00 | call_nn | rst_08 | rst_10 | rst_18 | rst_20 | rst_28 | rst_30 | rst_38 =>
    exact callTo_goes (Nat.le_max_left _ _) _ _
  | ret =>
    exact returnTo_goes (Nat.le_max_left _ _) _
  | illegal =>
    exact ⟨_, rfl, ⟨rfl, rfl, rfl, rfl⟩, .inr ⟨rfl, rfl⟩⟩

/-- DI, EI, HALT and STOP add their ticks; RETI pops, and sets IME where neither pop is refused. -/
theorem exec_passes (i : Instr) (s : State) : ∃ t, exec i s = .next t ∧ s.Passes t := by
  by_cases h : Instr.plain i = true
  · obtain ⟨t, e, _, p⟩ := exec_goes i s h
    exact ⟨t, e, p⟩
  · cases i with
    | di => exact ⟨_, rfl, .inl ⟨rfl, Nat.add_le_add_left (s.one_le_cost _ _) _⟩⟩
    | ei => exact ⟨_, rfl, .inl ⟨rfl, Nat.add_le_add_left (s.one_le_cost _ _) _⟩⟩
    | stop n => exact ⟨_, rfl, .inl ⟨rfl, Nat.add_le_add_left (s.one_le_cost _ _) _⟩⟩
    | halt =>
      refine ⟨_, rfl, .inl ?_⟩
      unfold State.haltWith
      simp only []
      split <;> split <;> exact ⟨rfl, Nat.add_le_add_left (s.one_le_cost _ _) _⟩
    | reti =>
      show ∃ t, (returnFromInterrupt s).finish _ = .next t ∧ s.Passes t
      have k := pop16_calm s
      unfold returnFromInterrupt
      generalize pop16 s = r at k
      cases r with
      | ok v u => exact ⟨_, rfl, .inl ⟨k.2.2, by rw [State.tick_ticks]; simpa [k.2.1] using s.one_le_cost _ _⟩⟩
      | fatal u => exact ⟨_, rfl, .inr ⟨k.2.2, k.2.1⟩⟩
    | _ => exact absurd (by rfl) h

end Sys2Proof.Machine
end

