-- ==== Sys2Proof/Laws/Region.lean ====
section
/-! SUPPORT. What the owner of an address says of the address (20_memory.md R51 to R54). -/

namespace Sys2Proof.Machine

/-- What an owner says of the address. -/
def Region.At (r : Region) (a : Nat) : Prop :=
  match r with
  | .cart n => n = a ∧ (a < 0x8000 ∨ (0xA000 ≤ a ∧ a < 0xC000))
  | .vram o => a = 0x8000 + o ∧ o < 0x2000
  | .wram o => (a = 0xC000 + o ∨ a = 0xE000 + o) ∧ o < 0x2000
  | .oam o => a = 0xFE00 + o ∧ o < 160
  | .hram o => a = 0xFF80 + o ∧ o < 127
  | .ie => a = 0xFFFF
  | .io r => (0xFF00 ≤ a ∧ a < 0xFF80) ∧ ioRegAt (a - 0xFF00) = some r
  | .unmapped => 0xFEA0 ≤ a ∧ a < 0xFF80

/-- Each owner's addresses, and the offset it is given. -/
theorem regionOf_at {a : Nat} (h : a < 0x10000) {r : Region} (e : regionOf a = r) : r.At a := by
  unfold regionOf at e
  split at e
  · subst e; exact ⟨rfl, by omega⟩
  split at e
  · subst e; simp only [Region.At]; omega
  split at e
  · subst e; exact ⟨rfl, by omega⟩
  split at e
  · subst e; simp only [Region.At]; omega
  split at e
  · subst e; simp only [Region.At]; omega
  split at e
  · subst e; simp only [Region.At]; omega
  split at e
  · subst e; simp only [Region.At]; omega
  split at e
  · split at e
    · subst e; simp only [Region.At]; exact ⟨by omega, by assumption⟩
    · subst e; simp only [Region.At]; omega
  split at e
  · subst e; simp only [Region.At]; omega
  · subst e; simp only [Region.At]; omega

theorem regionOf_cart {a : Word} {n : Nat} (h : regionOf a.toNat = .cart n) :
    n = a.toNat ∧ (a.toNat < 0x8000 ∨ (0xA000 ≤ a.toNat ∧ a.toNat < 0xC000)) := regionOf_at a.isLt h

theorem regionOf_vram {a : Word} {o : Nat} (h : regionOf a.toNat = .vram o) : a.toNat = 0x8000 + o ∧ o < 0x2000 := regionOf_at a.isLt h

theorem regionOf_wram {a : Word} {o : Nat} (h : regionOf a.toNat = .wram o) :
    (a.toNat = 0xC000 + o ∨ a.toNat = 0xE000 + o) ∧ o < 0x2000 := regionOf_at a.isLt h

theorem regionOf_oam {a : Word} {o : Nat} (h : regionOf a.toNat = .oam o) : a.toNat = 0xFE00 + o ∧ o < 160 := regionOf_at a.isLt h

theorem regionOf_hram {a : Word} {o : Nat} (h : regionOf a.toNat = .hram o) : a.toNat = 0xFF80 + o ∧ o < 127 := regionOf_at a.isLt h

theorem Cells.mem_of_lookup {α : Type} {m : List (Nat × α)} {k : Nat} {v : α} (h : Cells.lookup m k = some v) :
    (k, v) ∈ m := by
  induction m with
  | nil => cases h
  | cons c m ih =>
    obtain ⟨i, w⟩ := c
    simp only [Cells.lookup] at h
    split at h
    · cases h; subst_vars; exact List.mem_cons_self
    · exact List.mem_cons_of_mem _ (ih h)

/-- A wave register's number is below 16. -/
theorem ioRegAt_wave {o k : Nat} (h : ioRegAt o = some (.wave k)) : o = 0x30 + k ∧ k < 16 := by
  unfold ioRegAt at h
  split at h
  · cases h; omega
  · have := Cells.mem_of_lookup h
    simp [ioRegsLow, ioRegsSound, ioRegsLcd] at this

theorem regionOf_io {a : Word} {r : IoReg} (h : regionOf a.toNat = .io r) :
    (0xFF00 ≤ a.toNat ∧ a.toNat < 0xFF80) ∧ ioRegAt (a.toNat - 0xFF00) = some r := regionOf_at a.isLt h

theorem regionOf_wave {a : Word} {k : Nat} (h : regionOf a.toNat = .io (.wave k)) : k < 16 :=
  (ioRegAt_wave (regionOf_io h).2).2

end Sys2Proof.Machine
end

