-- ==== Sys2Proof/Laws/Frame.lean ====
section
/-! SUPPORT. Which bytes a read and a write leave as they were. -/

namespace Sys2Proof.Machine

theorem Bus.peek_setDraws (b : Bus) (n : Nat) (x : Word) : { b with draws := n }.peek x = b.peek x := by
  unfold Bus.peek Bus.value
  generalize regionOf x.toNat = r
  cases r <;> rfl

/-- A read changes no byte. -/
theorem Bus.peek_afterRead (b : Bus) (a x : Word) : (b.afterRead a).peek x = b.peek x := by
  unfold Bus.afterRead
  split
  · rfl
  · rfl
  · rfl
  · exact b.peek_setDraws _ x
  · rfl

theorem Bus.peek_read (b : Bus) (a x : Word) : (b.read a).after.peek x = b.peek x := by
  unfold Bus.read
  split
  · exact b.peek_afterRead a x
  · rfl

theorem SoundRegs.get_set (s : SoundRegs) (r q : SoundReg) (v : Byte) :
    (s.set r v).get q = if q = r then v else s.get q := by
  cases r <;> cases q <;> rfl

theorem SoundRegs.wave_set (s : SoundRegs) (r : SoundReg) (v : Byte) : (s.set r v).wave = s.wave := by
  cases r <;> rfl

/-- A register written leaves the others' values, but for `STAT`, which shows `LYC`. -/
theorem Bus.ioValue_ioWrite (b : Bus) (r q : IoReg) (v : Byte) (h : q ≠ r) (hs : r = .lyc → q ≠ .stat) :
    (b.ioWrite r v).ioValue q = b.ioValue q := by
  cases r with
  | sound r =>
    cases q with
    | sound q =>
      have hq : q ≠ r := fun e => h (e ▸ rfl)
      show (b.sregs.set r v).get q = b.sregs.get q
      rw [SoundRegs.get_set, if_neg hq]
    | wave k =>
      show (b.sregs.set r v).wave.read k = b.sregs.wave.read k
      rw [SoundRegs.wave_set]
    | _ => rfl
  | wave k =>
    cases q with
    | wave j =>
      have hj : j ≠ k := fun e => h (e ▸ rfl)
      exact Memory.read_write_of_ne _ v hj
    | _ => rfl
  | lyc =>
    cases q with
    | stat => exact absurd rfl (hs rfl)
    | lyc => exact absurd rfl h
    | _ => rfl
  | _ => cases q <;> first | rfl | exact absurd rfl h

theorem Cartridge.target_low (c : Cartridge) {x : Nat} (h : x < 0x8000) :
    c.target x = .fatal ∨ ∃ o, c.target x = .rom o := by
  unfold Cartridge.target Cartridge.romTarget
  split
  · split
    · exact .inr ⟨_, rfl⟩
    · exact .inl rfl
  · split
    · exact .inr ⟨_, rfl⟩
    · exact .inl rfl

theorem Cartridge.target_high (c : Cartridge) {x : Nat} (h : ¬x < 0x8000) :
    c.target x = c.ctl.windowTarget (x - 0xA000) := by
  unfold Cartridge.target
  rw [if_neg (by omega), if_neg h]

/-- A window that shows a clock field shows the same field at every offset (20_memory.md R110). -/
theorem Controller.windowTarget_rtc (c : Controller) (o p i : Nat) (h : c.windowTarget o = .rtc i) :
    c.windowTarget p = .rtc i := by
  cases c with
  | plain => cases h
  | bank1 st => cases h
  | bank2 st => simp only [Controller.windowTarget] at h; split at h <;> cases h
  | bank3 st =>
    simp only [Controller.windowTarget, Bank3.windowTarget] at h ⊢
    split at h
    · rename_i hen
      rw [if_pos hen]
      split at h
      · cases h
      · rename_i hlt
        rw [if_neg hlt]
        exact h
    · cases h

/-- Two external addresses that a controller maps apart: a write to one leaves the other. -/
theorem Cartridge.value_write_of_ne (c : Cartridge) (a x : Nat) (v : Byte) (now : Rtc) (ha : 0x8000 ≤ a)
    (h : x < 0x8000 ∨ c.target a ≠ c.target x) :
    (c.write a v now).readable x = c.readable x ∧ (c.write a v now).value x = c.value x := by
  have e := c.target_high (x := a) (by omega)
  unfold Cartridge.write
  rw [if_neg (by omega)]
  split
  · rename_i o ho
    refine ⟨rfl, ?_⟩
    have ht : Cartridge.target { c with xram := c.xram.write o (c.ctl.ramByte v) } x = c.target x := rfl
    unfold Cartridge.value
    rw [ht]
    cases hx : c.target x with
    | ram j =>
      have hj : j ≠ o := by
        rcases h with h | h
        · rcases c.target_low h with q | ⟨_, q⟩ <;> rw [q] at hx <;> cases hx
        · exact fun q => h (by rw [e, ho, hx, q])
      simp only []
      rw [Memory.read_write_of_ne _ _ hj]
    | _ => rfl
  · rename_i i hi
    split
    · rename_i st hst
      have ht : Cartridge.target { c with ctl := .bank3 { st with rtc := st.rtc.set i v } } x = c.target x := by
        unfold Cartridge.target
        rw [hst]; rfl
      refine ⟨by unfold Cartridge.readable; rw [ht], ?_⟩
      unfold Cartridge.value
      rw [ht]
      cases hx : c.target x with
      | rtc j =>
        exfalso
        by_cases hl : x < 0x8000
        · rcases c.target_low hl with q | ⟨_, q⟩ <;> rw [q] at hx <;> cases hx
        · rcases h with h | h
          · exact hl h
          · have := c.target_high hl
            exact h (by rw [e, hi, this, c.ctl.windowTarget_rtc _ _ _ hi])
      | ram j => simp only [Controller.ramByte, hst]
      | _ => rfl
    · exact ⟨rfl, rfl⟩
  · exact ⟨rfl, rfl⟩

theorem Bus.peek_dmaCopy (v : Byte) (n i : Nat) (b : Bus) (x : Word) (h : ∀ o, regionOf x.toNat ≠ .oam o) :
    (Bus.dmaCopy v n i b).after.peek x = b.peek x := by
  induction n generalizing i b with
  | zero => rfl
  | succ n ih =>
    simp only [Bus.dmaCopy]
    have hr := b.peek_read (dmaSource v i) x
    split
    · rename_i y b' e
      rw [e] at hr
      rw [ih]
      rw [← hr]
      unfold Bus.peek Bus.value
      cases hx : regionOf x.toNat <;> first | rfl | exact absurd hx (h _)
    · rename_i e
      rw [e] at hr
      exact hr

/-- A register write seen through any address of another owner, or of a register it does not show in. -/
theorem Bus.peek_ioWrite (b : Bus) (r : IoReg) (v : Byte) (x : Word) (h : regionOf x.toNat ≠ .io r)
    (hs : r = .lyc → regionOf x.toNat ≠ .io .stat) : (b.ioWrite r v).peek x = b.peek x := by
  unfold Bus.peek Bus.value
  cases hx : regionOf x.toNat with
  | io q =>
    have hq : q ≠ r := fun e => h (hx.trans (e ▸ rfl))
    simp only []
    rw [b.ioValue_ioWrite r q v hq (fun e f => hs e (hx.trans (f ▸ rfl)))]
  | unmapped => rfl
  | _ => cases r <;> rfl

/-- A store leaves every byte it does not reach, also where it ends in a fatal error. -/
theorem Bus.peek_write (b : Bus) (a x : Word) (v : Byte) (h : b.storeReaches a x = false) :
    (b.write a v).after.peek x = b.peek x := by
  unfold Bus.storeReaches at h
  unfold Bus.write
  cases ha : regionOf a.toNat with
  | cart n =>
    have hn := (regionOf_cart ha).1
    have hr := (regionOf_cart ha).2
    subst hn
    simp only [Bus.writeCart]
    split
    · simp only [Access.after]
      rw [Bus.peek_setDraws]
      unfold Bus.peek Bus.value
      cases hx : regionOf x.toNat with
      | cart k =>
        rw [ha, hx] at h
        simp only [Bool.or_eq_false_iff, Bool.and_eq_false_iff, decide_eq_false_iff_not] at h
        have := b.cart.value_write_of_ne a.toNat k v (rtcNow b.draws) (by omega)
          (h.2.imp (fun q => by omega) (fun q => q))
        simp only [this.1, this.2]
      | _ => rfl
    · rfl
  | vram o =>
    simp only [Access.after]
    unfold Bus.peek Bus.value
    cases hx : regionOf x.toNat with
    | vram p =>
      rw [ha, hx] at h
      have hp : p ≠ o := fun q => by subst q; simp at h
      show some ((b.vram.write o v).read p) = some (b.vram.read p)
      rw [Memory.read_write_of_ne _ _ hp]
    | _ => rfl
  | wram o =>
    simp only [Access.after]
    unfold Bus.peek Bus.value
    cases hx : regionOf x.toNat with
    | wram p =>
      rw [ha, hx] at h
      have hp : p ≠ o := fun q => by subst q; simp at h
      show some ((b.wram.write o v).read p) = some (b.wram.read p)
      rw [Memory.read_write_of_ne _ _ hp]
    | _ => rfl
  | oam o =>
    simp only [Access.after]
    unfold Bus.peek Bus.value
    cases hx : regionOf x.toNat with
    | oam p =>
      rw [ha, hx] at h
      have hp : p ≠ o := fun q => by subst q; simp at h
      show some ((b.oam.write o v).read p) = some (b.oam.read p)
      rw [Memory.read_write_of_ne _ _ hp]
    | _ => rfl
  | hram o =>
    simp only [Access.after]
    unfold Bus.peek Bus.value
    cases hx : regionOf x.toNat with
    | hram p =>
      rw [ha, hx] at h
      have hp : p ≠ o := fun q => by subst q; simp at h
      show some ((b.hram.write o v).read p) = some (b.hram.read p)
      rw [Memory.read_write_of_ne _ _ hp]
    | _ => rfl
  | ie =>
    simp only [Access.after]
    unfold Bus.peek Bus.value
    cases hx : regionOf x.toNat with
    | ie => rw [ha, hx] at h; simp at h
    | io q => cases q <;> rfl
    | _ => rfl
  | unmapped => rfl
  | io r =>
    have hne : regionOf x.toNat ≠ .io r := by
      intro q; rw [ha, q] at h; cases r <;> simp at h
    have hs : r = .lyc → regionOf x.toNat ≠ .io .stat := by
      intro e q; subst e; rw [ha, q] at h; simp at h
    have hw := b.peek_ioWrite r v x hne hs
    cases r with
    | dma =>
      simp only []
      rw [Bus.peek_dmaCopy, hw]
      intro o q
      rw [ha, q] at h
      simp at h
    | _ => exact hw

end Sys2Proof.Machine
end

