-- ==== Sys2Proof/Laws/Inv.lean ====
section
/-! SUPPORT. The invariant of Safety.lean is kept by every change that a read, a write or an interrupt's
acknowledgement makes; and what the parts of a machine at reset read as. -/

namespace Sys2Proof.Machine

/-! ### Storage -/

theorem Memory.fits_write (m : Memory) (n k : Nat) (v : Byte) (hk : k < n) (h : m.fits n = true) :
    (m.write k v).fits n = true := by
  simp only [Memory.fits, Bool.and_eq_true] at h ⊢
  exact ⟨Memory.wf_write m k v h.1, Cells.below_write 0 n m k v hk h.2⟩

/-! ### Caches -/

theorem Cells.wfFrom_filter {α : Type} [DecidableEq α] (d : α) (lo : Nat) (m : List (Nat × α)) (p : Nat × α → Bool)
    (w : Cells.wfFrom d lo m = true) : Cells.wfFrom d lo (m.filter p) = true := by
  induction m generalizing lo with
  | nil => exact w
  | cons c m ih =>
    obtain ⟨i, x⟩ := c
    simp only [Cells.wfFrom, Bool.and_eq_true, decide_eq_true_eq] at w
    have ih := ih _ w.2
    simp only [List.filter_cons]
    split
    · simp only [Cells.wfFrom, Bool.and_eq_true, decide_eq_true_eq]
      exact ⟨w.1, ih⟩
    · exact Cells.wfFrom_mono d _ (by omega) ih

/-- A filter by key: what is looked up afterwards was listed, and its key is kept. -/
theorem Cells.lookup_filter {α : Type} (m : List (Nat × α)) (p : Nat → Bool) (k : Nat) (v : α)
    (h : Cells.lookup (m.filter (fun e => p e.1)) k = some v) : Cells.lookup m k = some v ∧ p k = true := by
  induction m with
  | nil => cases h
  | cons c m ih =>
    obtain ⟨i, x⟩ := c
    simp only [List.filter_cons] at h
    split at h
    · simp only [Cells.lookup] at h ⊢
      split at h
      · rename_i hp e; subst e; exact ⟨by simpa using h, hp⟩
      · rename_i e; rw [if_neg e]; exact ih h
    · have := ih h
      simp only [Cells.lookup]
      split
      · rename_i hp e; subst e; exact absurd this.2 hp
      · exact this

theorem tilePixel_write (vram : Memory) (base r c o : Nat) (v : Byte) (hr : r < 8) (hb : base % 16 = 0)
    (h : base / 16 ≠ o / 16) : tilePixel (vram.write o v) base r c = tilePixel vram base r c := by
  unfold tilePixel
  rw [Memory.read_write_of_ne _ _ (by omega), Memory.read_write_of_ne _ _ (by omega)]

theorem bgTileBase_mod (lcdc n : Byte) : bgTileBase lcdc n % 16 = 0 := by
  unfold bgTileBase
  split
  · omega
  split <;> omega

theorem bgTileBase_lt (lcdc n : Byte) : bgTileBase lcdc n < 0x1800 := by
  unfold bgTileBase
  have := n.isLt
  split
  · omega
  split <;> omega

theorem mapEntry_write (vram : Memory) (sel : Bool) (k o : Nat) (v : Byte) (h : mapBase sel + k ≠ o) :
    mapEntry (vram.write o v) sel k = mapEntry vram sel k := by
  unfold mapEntry
  exact Memory.read_write_of_ne _ _ h

theorem mapBase_ge (sel : Bool) : 0x1800 ≤ mapBase sel := by cases sel <;> decide

/-- A cell's tile is not changed by a store to neither its map entry nor its tile data. -/
theorem bgTile_write (vram : Memory) (io : IoRegs) (sel : Bool) (k o : Nat) (v : Byte) (hm : mapBase sel + k ≠ o)
    (ht : bgTileBase io.lcdc (mapEntry vram sel k) / 16 ≠ o / 16) :
    bgTile (vram.write o v) io sel k = bgTile vram io sel k := by
  unfold bgTile
  apply List.map_congr_left
  intro i hi
  have hi := List.mem_range.mp hi
  unfold bgPixelAt
  simp only [mapEntry_write vram sel k o v hm]
  rw [tilePixel_write vram _ _ _ o v (by omega) (bgTileBase_mod _ _) ht]

theorem objTile_write (vram : Memory) (io : IoRegs) (t o : Nat) (v : Byte) (h : t ≠ o / 16) :
    objTile (vram.write o v) io t = objTile vram io t := by
  unfold objTile
  apply List.map_congr_left
  intro i hi
  have hi := List.mem_range.mp hi
  unfold objPixelAt
  rw [tilePixel_write vram (16 * t) _ _ o v (by omega) (by omega) (by omega)]

/-- A store to video RAM leaves the caches current (20_memory.md R69). -/
theorem Bus.cachesCurrent_writeVram (b : Bus) (o : Nat) (v : Byte) (ho : o < 0x2000) (h : b.cachesCurrent) :
    (b.writeVram o v).cachesCurrent := by
  obtain ⟨hb, hw, hs⟩ := h
  unfold Bus.writeVram TileCaches.vramDirty
  by_cases hlo : o < 0x1800
  · simp only [hlo, if_true]
    refine ⟨fun k tile e => ?_, fun k tile e => ?_, fun k tile e => ?_⟩
    · have e := Cells.lookup_filter _ (fun k => decide (bgTileBase b.io.lcdc (mapEntry (b.vram.write o v) (b.io.lcdc.getLsbD 3) k) / 16 ≠ o / 16)) _ _ e
      have hk := hb k tile e.1
      have := mapBase_ge (b.io.lcdc.getLsbD 3)
      have hne : mapBase (b.io.lcdc.getLsbD 3) + k ≠ o := by omega
      refine ⟨hk.1, hk.2.trans (bgTile_write _ _ _ _ _ _ hne ?_).symm⟩
      have := e.2
      rw [decide_eq_true_eq, mapEntry_write _ _ _ _ _ hne] at this
      exact this
    · have e := Cells.lookup_filter _ (fun k => decide (bgTileBase b.io.lcdc (mapEntry (b.vram.write o v) (b.io.lcdc.getLsbD 6) k) / 16 ≠ o / 16)) _ _ e
      have hk := hw k tile e.1
      have := mapBase_ge (b.io.lcdc.getLsbD 6)
      have hne : mapBase (b.io.lcdc.getLsbD 6) + k ≠ o := by omega
      refine ⟨hk.1, hk.2.trans (bgTile_write _ _ _ _ _ _ hne ?_).symm⟩
      have := e.2
      rw [decide_eq_true_eq, mapEntry_write _ _ _ _ _ hne] at this
      exact this
    · simp only [Cells.lookup_erase] at e
      split at e
      · cases e
      · rename_i hne
        have hk := hs k tile e
        exact ⟨hk.1, hk.2.trans (objTile_write _ _ _ _ _ hne).symm⟩
  · simp only [hlo, if_false]
    have key : ∀ (sel : Bool) (m : List (Nat × List BgPixel)) (k : Nat) (tile : List BgPixel),
        (∀ k tile, Cells.lookup m k = some tile → k < 1024 ∧ tile = bgTile b.vram b.io sel k) →
        Cells.lookup (if decide (0x1C00 ≤ o) = sel then Cells.erase m ((o - 0x1800) % 0x400) else m) k = some tile →
        k < 1024 ∧ tile = bgTile (b.vram.write o v) b.io sel k := by
      intro sel m k tile hm e
      have ⟨e1, e2⟩ : Cells.lookup m k = some tile ∧ (decide (0x1C00 ≤ o) = sel → k ≠ (o - 0x1800) % 0x400) := by
        split at e
        · rw [Cells.lookup_erase] at e
          split at e
          · cases e
          · exact ⟨e, fun _ => by assumption⟩
        · exact ⟨e, fun q => absurd q (by assumption)⟩
      have hk := hm k tile e1
      refine ⟨hk.1, hk.2.trans (bgTile_write _ _ _ _ _ _ ?_ ?_).symm⟩
      · cases sel
        · simp only [mapBase, decide_eq_false_iff_not] at e2 ⊢
          have := hk.1
          simp only [if_neg Bool.false_ne_true]
          omega
        · simp only [mapBase, decide_eq_true_eq] at e2 ⊢
          have := hk.1
          simp only [if_true]
          omega
      · have := bgTileBase_lt b.io.lcdc (mapEntry b.vram sel k)
        omega
    refine ⟨fun k tile e => key _ _ k tile hb e, fun k tile e => key _ _ k tile hw e, fun k tile e => ?_⟩
    have hk := hs k tile e
    refine ⟨hk.1, hk.2.trans (objTile_write _ _ _ _ _ ?_).symm⟩
    have := hk.1
    omega

theorem Bus.pictureFits_writeVram (b : Bus) (o : Nat) (v : Byte) (h : b.pictureFits = true) :
    (b.writeVram o v).pictureFits = true := by
  simp only [Bus.pictureFits, Bool.and_eq_true] at h ⊢
  obtain ⟨⟨⟨⟨h1, h2⟩, h3⟩, h4⟩, h5⟩ := h
  refine ⟨⟨⟨⟨?_, ?_⟩, ?_⟩, h4⟩, h5⟩ <;> simp only [Bus.writeVram, TileCaches.vramDirty] <;> split
  · exact Cells.wfFrom_filter _ _ _ _ h1
  · simp only []; split
    · exact Cells.wfFrom_erase _ _ _ _ h1
    · exact h1
  · exact Cells.wfFrom_filter _ _ _ _ h2
  · simp only []; split
    · exact Cells.wfFrom_erase _ _ _ _ h2
    · exact h2
  · exact Cells.wfFrom_erase _ _ _ _ h3
  · exact h3

/-! ### The invariant under the changes of one access -/

theorem Bus.storage_parts (b : Bus) : b.storageFits = true ↔
    b.vram.fits 0x2000 = true ∧ b.wram.fits 0x2000 = true ∧ b.oam.fits 160 = true ∧ b.hram.fits 127 = true ∧
    b.sregs.wave.fits 16 = true ∧ b.cart.rom.fits b.cart.romLen = true ∧
    b.cart.xram.fits b.cart.ctl.xramSize = true ∧ Cells.wfFrom 0 0 b.snd.ch3.wave = true ∧
    Cells.below 32 b.snd.ch3.wave = true := by
  simp only [Bus.storageFits, Bool.and_eq_true, and_assoc]

theorem Bus.Inv.writeVram {b : Bus} (h : b.Inv) (o : Nat) (v : Byte) (ho : o < 0x2000) : (b.writeVram o v).Inv := by
  obtain ⟨s1, s2⟩ := b.storage_parts.mp h.storage
  exact ⟨(Bus.storage_parts _).mpr ⟨Memory.fits_write _ _ _ _ ho s1, s2⟩, h.palettes, h.banks,
    b.cachesCurrent_writeVram o v ho h.caches, b.pictureFits_writeVram o v h.picture, h.wave, h.mixer⟩

theorem Bus.Inv.setWram {b : Bus} (h : b.Inv) (o : Nat) (v : Byte) (ho : o < 0x2000) :
    { b with wram := b.wram.write o v }.Inv := by
  obtain ⟨s1, s2, s3⟩ := b.storage_parts.mp h.storage
  exact ⟨(Bus.storage_parts _).mpr ⟨s1, Memory.fits_write _ _ _ _ ho s2, s3⟩, h.palettes, h.banks, h.caches,
    h.picture, h.wave, h.mixer⟩

theorem Bus.Inv.setOam {b : Bus} (h : b.Inv) (o : Nat) (v : Byte) (ho : o < 160) :
    { b with oam := b.oam.write o v }.Inv := by
  obtain ⟨s1, s2, s3, s4⟩ := b.storage_parts.mp h.storage
  exact ⟨(Bus.storage_parts _).mpr ⟨s1, s2, Memory.fits_write _ _ _ _ ho s3, s4⟩, h.palettes, h.banks, h.caches,
    h.picture, h.wave, h.mixer⟩

theorem Bus.Inv.setHram {b : Bus} (h : b.Inv) (o : Nat) (v : Byte) (ho : o < 127) :
    { b with hram := b.hram.write o v }.Inv := by
  obtain ⟨s1, s2, s3, s4, s5⟩ := b.storage_parts.mp h.storage
  exact ⟨(Bus.storage_parts _).mpr ⟨s1, s2, s3, Memory.fits_write _ _ _ _ ho s4, s5⟩, h.palettes, h.banks, h.caches,
    h.picture, h.wave, h.mixer⟩

/-- An I/O register that no part of the invariant reads. -/
theorem Bus.Inv.setIo {b : Bus} (h : b.Inv) (io : IoRegs) (e1 : io.lcdc = b.io.lcdc) (e2 : io.bgp = b.io.bgp)
    (e3 : io.obp0 = b.io.obp0) (e4 : io.obp1 = b.io.obp1) : { b with io := io }.Inv := by
  obtain ⟨p1, p2, p3⟩ := h.palettes
  obtain ⟨c1, c2, c3⟩ := h.caches
  have hbg : ∀ sel k, bgTile b.vram io sel k = bgTile b.vram b.io sel k := by
    intro sel k; unfold bgTile bgPixelAt; rw [e1, e2]
  have hobj : ∀ k, objTile b.vram io k = objTile b.vram b.io k := by
    intro k; unfold objTile objPixelAt; rw [e3, e4]
  refine ⟨h.storage, ⟨?_, ?_, ?_⟩, h.banks, ⟨?_, ?_, ?_⟩, h.picture, h.wave, h.mixer⟩
  · simpa [e2] using p1
  · simpa [e3] using p2
  · simpa [e4] using p3
  · intro k t e; have := c1 k t e; simpa only [hbg, e1] using this
  · intro k t e; have := c2 k t e; simpa only [hbg, e1] using this
  · intro k t e; have := c3 k t e; simpa only [hobj] using this

theorem Bus.Inv.setDrv {b : Bus} (h : b.Inv) (d : Driver) : { b with drv := d }.Inv :=
  ⟨h.storage, h.palettes, h.banks, h.caches, h.picture, h.wave, h.mixer⟩

theorem Bus.Inv.setDraws {b : Bus} (h : b.Inv) (n : Nat) : { b with draws := n }.Inv :=
  ⟨h.storage, h.palettes, h.banks, h.caches, h.picture, h.wave, h.mixer⟩

theorem Bus.Inv.setPressed {b : Bus} (h : b.Inv) (p : Buttons) : { b with pressed := p }.Inv :=
  ⟨h.storage, h.palettes, h.banks, h.caches, h.picture, h.wave, h.mixer⟩

theorem Bus.Inv.dirtyBackground {b : Bus} (h : b.Inv) : { b with caches := b.caches.dirtyBackground }.Inv := by
  obtain ⟨c1, c2, c3⟩ := h.caches
  have hp := h.picture
  simp only [Bus.pictureFits, Bool.and_eq_true] at hp
  refine ⟨h.storage, h.palettes, h.banks, ⟨fun _ _ e => ?_, fun _ _ e => ?_, c3⟩, ?_, h.wave, h.mixer⟩
  · cases e
  · cases e
  · simp only [Bus.pictureFits, Bool.and_eq_true]
    exact ⟨⟨⟨⟨rfl, rfl⟩, hp.1.1.2⟩, hp.1.2⟩, hp.2⟩

theorem Bus.Inv.dirtySprites {b : Bus} (h : b.Inv) : { b with caches := b.caches.dirtySprites }.Inv := by
  obtain ⟨c1, c2, c3⟩ := h.caches
  have hp := h.picture
  simp only [Bus.pictureFits, Bool.and_eq_true] at hp
  refine ⟨h.storage, h.palettes, h.banks, ⟨c1, c2, fun _ _ e => ?_⟩, ?_, h.wave, h.mixer⟩
  · cases e
  · simp only [Bus.pictureFits, Bool.and_eq_true]
    exact ⟨⟨⟨hp.1.1.1, rfl⟩, hp.1.2⟩, hp.2⟩

theorem Bus.Inv.writeLcdc {b : Bus} (h : b.Inv) (v : Byte) : (b.writeLcdc v).Inv := by
  obtain ⟨c1, c2, c3⟩ := h.caches
  have hp := h.picture
  refine ⟨h.storage, h.palettes, h.banks, ?_, ?_, h.wave, h.mixer⟩
  · unfold Bus.writeLcdc
    by_cases hc : lcdcBanksChange b.io.lcdc v = true
    · simp only [hc, if_true]
      exact ⟨fun _ _ e => (nomatch e), fun _ _ e => (nomatch e), c3⟩
    · simp only [hc]
      simp only [lcdcBanksChange, Bool.or_eq_true, bne_iff_ne, ne_eq, not_or, Decidable.not_not] at hc
      have hbg : ∀ sel k, bgTile b.vram { b.io with lcdc := v } sel k = bgTile b.vram b.io sel k := by
        intro sel k; unfold bgTile bgPixelAt bgTileBase; simp only [hc.1.2]
      refine ⟨fun k t e => ?_, fun k t e => ?_, c3⟩
      · have := c1 k t e; simpa only [hbg, hc.2] using this
      · have := c2 k t e; simpa only [hbg, hc.1.1] using this
  · unfold Bus.writeLcdc
    simp only [Bus.pictureFits, Bool.and_eq_true] at hp ⊢
    split
    · exact ⟨⟨⟨⟨rfl, rfl⟩, hp.1.1.2⟩, hp.1.2⟩, hp.2⟩
    · exact hp

theorem Bus.Inv.writeBgp {b : Bus} (h : b.Inv) (v : Byte) : (b.writeBgp v).Inv := by
  obtain ⟨p1, p2, p3⟩ := h.palettes
  have := h.dirtyBackground
  exact ⟨h.storage, ⟨rfl, p2, p3⟩, h.banks, ⟨fun _ _ e => (nomatch e), fun _ _ e => (nomatch e), h.caches.2.2⟩,
    this.picture, h.wave, h.mixer⟩

theorem Bus.Inv.writeObp0 {b : Bus} (h : b.Inv) (v : Byte) : (b.writeObp0 v).Inv := by
  obtain ⟨p1, p2, p3⟩ := h.palettes
  have := h.dirtySprites
  exact ⟨h.storage, ⟨p1, rfl, p3⟩, h.banks, ⟨h.caches.1, h.caches.2.1, fun _ _ e => (nomatch e)⟩, this.picture,
    h.wave, h.mixer⟩

theorem Bus.Inv.writeObp1 {b : Bus} (h : b.Inv) (v : Byte) : (b.writeObp1 v).Inv := by
  obtain ⟨p1, p2, p3⟩ := h.palettes
  have := h.dirtySprites
  exact ⟨h.storage, ⟨p1, p2, rfl⟩, h.banks, ⟨h.caches.1, h.caches.2.1, fun _ _ e => (nomatch e)⟩, this.picture,
    h.wave, h.mixer⟩

theorem Bus.Inv.writeSound {b : Bus} (h : b.Inv) (r : SoundReg) (v : Byte) : (b.writeSound r v).Inv := by
  have hs := h.storage
  obtain ⟨m1, m2, m3, m4, m5, m6⟩ := h.mixer
  refine ⟨?_, h.palettes, h.banks, h.caches, h.picture, ?_, ?_⟩
  · cases r <;> first
      | exact hs
      | (simp only [Bus.writeSound, Sound.load, WaveChannel.loadFreqHigh]; split <;> exact hs)
  · cases r <;> first
      | exact h.wave
      | (simp only [Bus.writeSound, Sound.load, WaveChannel.loadFreqHigh]; split <;> exact h.wave)
  · cases r <;> first
      | exact ⟨m1, m2, m3, m4, m5, m6⟩
      | exact ⟨rfl, rfl, m3, m4, m5, m6⟩
      | (simp only [Bus.writeSound, Sound.load, ToneChannel.loadFreqHigh, WaveChannel.loadFreqHigh,
           NoiseChannel.loadControl]
         split <;> exact ⟨m1, m2, m3, m4, m5, m6⟩)
      | exact ⟨m1, m2, ⟨rfl, rfl⟩, ⟨rfl, rfl⟩, ⟨rfl, rfl⟩, ⟨rfl, rfl⟩⟩

theorem Bus.Inv.writeWave {b : Bus} (h : b.Inv) (k : Nat) (v : Byte) (hk : k < 16) : (b.writeWave k v).Inv := by
  obtain ⟨s1, s2, s3, s4, s5, s6, s7, s8, s9⟩ := b.storage_parts.mp h.storage
  refine ⟨(Bus.storage_parts _).mpr ⟨s1, s2, s3, s4, Memory.fits_write _ _ _ _ hk s5, s6, s7, ?_, ?_⟩, h.palettes,
    h.banks, h.caches, h.picture, ?_, h.mixer⟩
  · exact Cells.wfFrom_write _ _ _ _ (Cells.wfFrom_write _ _ _ _ s8)
  · exact Cells.below_write _ _ _ _ _ (by omega) (Cells.below_write _ _ _ _ _ (by omega) s9)
  · intro j
    have := h.wave j
    simp only [Bus.writeWave, WaveChannel.loadWave, Cells.read_write, Memory.read_write]
    by_cases hj : j = k
    · subst hj; simp
    · have e1 : ¬2 * j = 2 * k := by omega
      have e2 : ¬2 * j = 2 * k + 1 := by omega
      have e3 : ¬2 * j + 1 = 2 * k := by omega
      have e4 : ¬2 * j + 1 = 2 * k + 1 := by omega
      simpa only [hj, e1, e2, e3, e4, if_false] using this

theorem Bus.Inv.ioWrite {b : Bus} (h : b.Inv) (r : IoReg) (v : Byte) (hr : ∀ k, r = .wave k → k < 16) :
    (b.ioWrite r v).Inv := by
  cases r
  case sound r => exact h.writeSound r v
  case wave k => exact h.writeWave k v (hr k rfl)
  case lcdc => exact h.writeLcdc v
  case bgp => exact h.writeBgp v
  case obp0 => exact h.writeObp0 v
  case obp1 => exact h.writeObp1 v
  case ly => exact h
  case div => exact (h.setIo { b.io with div := 0 } rfl rfl rfl rfl).setDrv _
  case tac => exact (h.setIo { b.io with tac := v.extractLsb' 0 3 } rfl rfl rfl rfl).setDrv _
  all_goals exact h.setIo _ rfl rfl rfl rfl

/-! ### The cartridge -/

theorem Controller.xramSize_control (c : Controller) (a : Nat) (v : Byte) (now : Rtc) :
    (c.control a v now).xramSize = c.xramSize := by cases c <;> rfl

theorem Controller.banksLegal_control (c : Controller) (a : Nat) (v : Byte) (now : Rtc) (h : c.banksLegal = true) :
    (c.control a v now).banksLegal = true := by
  cases c with
  | plain => rfl
  | bank2 st => rfl
  | bank1 st =>
    simp only [Controller.control, Controller.banksLegal, Bank1.control, decide_eq_true_eq] at h ⊢
    split
    · exact h
    split
    · simp only []; split
      · decide
      · assumption
    split <;> exact h
  | bank3 st =>
    simp only [Controller.control, Controller.banksLegal, Bank3.control, decide_eq_true_eq] at h ⊢
    split
    · exact h
    split
    · simp only []; split
      · decide
      · assumption
    split <;> exact h

/-- An offset that the external window gives is below the variant's size (20_memory.md R100, R104, R110). -/
theorem Controller.windowTarget_ram (c : Controller) (o j : Nat) (ho : o < 0x2000) (h : c.windowTarget o = .ram j) :
    j < c.xramSize := by
  cases c with
  | plain => cases h
  | bank1 st =>
    simp only [Controller.windowTarget, Target.ram.injEq, Bank1.ramBankEff] at h
    have := st.hi2.isLt
    simp only [Controller.xramSize]
    split at h <;> omega
  | bank2 st =>
    simp only [Controller.windowTarget] at h
    split at h
    · simp only [Target.ram.injEq] at h; simp only [Controller.xramSize]; omega
    · cases h
  | bank3 st =>
    simp only [Controller.windowTarget, Bank3.windowTarget] at h
    split at h
    · split at h
      · simp only [Target.ram.injEq] at h; simp only [Controller.xramSize]; omega
      · split at h <;> cases h
    · cases h

/-- What a write leaves of a cartridge (20_memory.md R90; 10_state.md R26): the image, its length, the variant. -/
theorem Cartridge.write_image (c : Cartridge) (a : Nat) (v : Byte) (now : Rtc) :
    (c.write a v now).rom = c.rom ∧ (c.write a v now).romLen = c.romLen ∧
    (c.write a v now).ctl.xramSize = c.ctl.xramSize := by
  unfold Cartridge.write
  split
  · exact ⟨rfl, rfl, Controller.xramSize_control _ _ _ _⟩
  · split
    · exact ⟨rfl, rfl, rfl⟩
    · split
      · rename_i h; exact ⟨rfl, rfl, by rw [h]; rfl⟩
      · exact ⟨rfl, rfl, rfl⟩
    · exact ⟨rfl, rfl, rfl⟩

theorem Bus.Inv.setCart {b : Bus} (h : b.Inv) (c : Cartridge) (e1 : c.rom.fits c.romLen = true)
    (e2 : c.xram.fits c.ctl.xramSize = true) (e3 : c.ctl.banksLegal = true) : { b with cart := c }.Inv := by
  obtain ⟨s1, s2, s3, s4, s5, s6, s7, s8⟩ := b.storage_parts.mp h.storage
  exact ⟨(Bus.storage_parts _).mpr ⟨s1, s2, s3, s4, s5, e1, e2, s8⟩, h.palettes, e3, h.caches, h.picture, h.wave,
    h.mixer⟩

theorem Cartridge.write_fits (c : Cartridge) (a : Nat) (v : Byte) (now : Rtc)
    (ha : a < 0x8000 ∨ (0xA000 ≤ a ∧ a < 0xC000)) (h : c.xram.fits c.ctl.xramSize = true) :
    (c.write a v now).xram.fits c.ctl.xramSize = true := by
  unfold Cartridge.write
  split
  · exact h
  · split
    · rename_i j hj
      exact Memory.fits_write _ _ _ _ (Controller.windowTarget_ram _ _ _ (by omega) hj) h
    · split <;> exact h
    · exact h

theorem Cartridge.write_banksLegal (c : Cartridge) (a : Nat) (v : Byte) (now : Rtc) (h : c.ctl.banksLegal = true) :
    (c.write a v now).ctl.banksLegal = true := by
  unfold Cartridge.write
  split
  · exact Controller.banksLegal_control _ _ _ _ h
  · split
    · exact h
    · split
      · rename_i e; rw [e] at h; exact h
      · exact h
    · exact h

theorem Bus.Inv.cartWritten {b : Bus} (h : b.Inv) (a : Nat) (v : Byte) (now : Rtc)
    (ha : a < 0x8000 ∨ (0xA000 ≤ a ∧ a < 0xC000)) : { b with cart := b.cart.write a v now }.Inv := by
  obtain ⟨s1, s2, s3, s4, s5, s6, s7, s8⟩ := b.storage_parts.mp h.storage
  obtain ⟨w1, w2, w3⟩ := b.cart.write_image a v now
  refine h.setCart _ ?_ ?_ (b.cart.write_banksLegal a v now h.banks)
  · rw [w1, w2]; exact s6
  · rw [w3]; exact b.cart.write_fits a v now ha s7

/-! ### One access -/

theorem Bus.Inv.afterRead {b : Bus} (h : b.Inv) (a : Word) : (b.afterRead a).Inv := by
  unfold Bus.afterRead
  split
  · exact h.dirtyBackground
  · exact h.dirtySprites
  · exact h.dirtySprites
  · exact h.setDraws _
  · exact h

theorem Bus.Inv.read {b : Bus} (h : b.Inv) (a : Word) : (b.read a).after.Inv := by
  unfold Bus.read
  split
  · exact h.afterRead a
  · exact h

/-- The OAM DMA copy keeps the invariant: it stores below 160 (20_memory.md R72). -/
theorem Bus.Inv.dmaCopy (v : Byte) (n i : Nat) (hn : i + n ≤ 160) {b : Bus} (h : b.Inv) :
    (Bus.dmaCopy v n i b).after.Inv := by
  induction n generalizing i b with
  | zero => exact h
  | succ n ih =>
    simp only [Bus.dmaCopy]
    have hr := h.read (dmaSource v i)
    split
    · rename_i x b' e
      rw [e] at hr
      exact ih (i + 1) (by omega) (hr.setOam i x (by omega))
    · rename_i e
      rw [e] at hr
      exact hr

theorem Bus.Inv.writeCart {b : Bus} (h : b.Inv) (a : Word) (v : Byte)
    (ha : a.toNat < 0x8000 ∨ (0xA000 ≤ a.toNat ∧ a.toNat < 0xC000)) : (b.writeCart a v).after.Inv := by
  unfold Bus.writeCart
  split
  · exact (h.cartWritten a.toNat v (rtcNow b.draws) ha).setDraws _
  · exact h

/-- `WriteByte` keeps the invariant (20_memory.md R56), also where it ends in a fatal error. -/
theorem Bus.Inv.write {b : Bus} (h : b.Inv) (a : Word) (v : Byte) : (b.write a v).after.Inv := by
  unfold Bus.write
  split
  · rename_i e; exact h.writeCart a v (regionOf_cart e).2
  · rename_i e; exact h.writeVram _ v (regionOf_vram e).2
  · rename_i e; exact h.setWram _ v (regionOf_wram e).2
  · rename_i e; exact h.setOam _ v (regionOf_oam e).2
  · rename_i e; exact h.setHram _ v (regionOf_hram e).2
  · exact h.setIo _ rfl rfl rfl rfl
  · exact (h.ioWrite .dma v (fun _ e => nomatch e)).dmaCopy v 160 0 (by omega)
  · rename_i r _ e
    exact h.ioWrite r v (fun k hk => regionOf_wave (hk ▸ e))
  · exact h

theorem Bus.Inv.acknowledge {b : Bus} (h : b.Inv) (i : Fin 5) : (b.acknowledge i).Inv :=
  h.setIo _ rfl rfl rfl rfl

theorem Bus.Inv.request {b : Bus} (h : b.Inv) (i : Fin 5) : (b.request i).Inv := h.setIo _ rfl rfl rfl rfl

/-! ### A machine at reset -/

/-- The samples of a byte of wave memory and of the bytes after it. -/
theorem waveSamples_cons (k : Nat) (v : Byte) (m : Memory) : waveSamples ((k, v) :: m) =
    (if v.extractLsb' 4 4 = 0 then [] else [(2 * k, v.extractLsb' 4 4)]) ++
      ((if v.extractLsb' 0 4 = 0 then [] else [(2 * k + 1, v.extractLsb' 0 4)]) ++ waveSamples m) := by
  simp only [waveSamples, List.flatMap_cons, List.cons_append, List.nil_append, List.filter_cons, decide_not]
  by_cases h1 : v.extractLsb' 4 4 = 0#4 <;> by_cases h2 : v.extractLsb' 0 4 = 0#4 <;> simp [h1, h2]

/-- The samples of a canonical wave memory are canonical. -/
theorem waveSamples_wfFrom (lo : Nat) (m : Memory) (h : Cells.wfFrom 0 lo m = true) :
    Cells.wfFrom 0 (2 * lo) (waveSamples m) = true := by
  induction m generalizing lo with
  | nil => rfl
  | cons c m ih =>
    obtain ⟨k, v⟩ := c
    simp only [Cells.wfFrom, Bool.and_eq_true, decide_eq_true_eq] at h
    have t := ih (k + 1) h.2
    rw [waveSamples_cons]
    by_cases h1 : v.extractLsb' 4 4 = 0 <;> by_cases h2 : v.extractLsb' 0 4 = 0 <;>
      simp only [h1, h2, if_true, if_false, List.nil_append, List.cons_append, Cells.wfFrom, Bool.and_eq_true,
        decide_eq_true_eq, ne_eq, not_false_eq_true, and_true]
    · exact Cells.wfFrom_mono 0 _ (by omega) t
    · exact ⟨by omega, t⟩
    · exact ⟨by omega, Cells.wfFrom_mono 0 _ (by omega) t⟩
    · exact ⟨by omega, by omega, t⟩

/-- Sixteen bytes of wave memory give samples below 32. -/
theorem waveSamples_below (n : Nat) (m : Memory) (h : Cells.below n m = true) :
    Cells.below (2 * n) (waveSamples m) = true := by
  induction m with
  | nil => rfl
  | cons c m ih =>
    obtain ⟨k, v⟩ := c
    simp only [Cells.below, List.all_cons, Bool.and_eq_true, decide_eq_true_eq] at h
    have t := ih h.2
    rw [waveSamples_cons]
    unfold Cells.below at t ⊢
    rw [List.all_append, List.all_append, t]
    split <;> split <;> simp <;> omega

/-- The samples are the nibbles, the high one first (R38). -/
theorem waveSamples_read (m : Memory) (lo : Nat) (h : Cells.wfFrom 0 lo m = true) (k : Nat) :
    Cells.read 0 (waveSamples m) (2 * k) = (m.read k).extractLsb' 4 4 ∧
      Cells.read 0 (waveSamples m) (2 * k + 1) = (m.read k).extractLsb' 0 4 := by
  induction m generalizing lo with
  | nil => simp [waveSamples, Cells.read, Cells.lookup, Memory.read]
  | cons c m ih =>
    obtain ⟨j, v⟩ := c
    simp only [Cells.wfFrom, Bool.and_eq_true, decide_eq_true_eq] at h
    have t := ih (j + 1) h.2
    have w := waveSamples_wfFrom (j + 1) m h.2
    have n0 := Cells.lookup_none_of_wfFrom 0 _ _ (2 * j) (by omega) w
    have n1 := Cells.lookup_none_of_wfFrom 0 _ _ (2 * j + 1) (by omega) w
    rw [waveSamples_cons]
    unfold Memory.read at t ⊢
    by_cases e : j = k
    · subst e
      by_cases h1 : v.extractLsb' 4 4 = 0#4 <;> by_cases h2 : v.extractLsb' 0 4 = 0#4 <;>
        simp [h1, h2, Cells.read, Cells.lookup, n0, n1]
    · have e1 : ¬2 * j = 2 * k := by omega
      have e2 : ¬2 * j + 1 = 2 * k := by omega
      have e3 : ¬2 * j = 2 * k + 1 := by omega
      by_cases h1 : v.extractLsb' 4 4 = 0#4 <;> by_cases h2 : v.extractLsb' 0 4 = 0#4 <;>
        simpa [h1, h2, Cells.read, Cells.lookup, e, e1, e2, e3] using t

/-- External RAM at construction is canonical and within its size, whatever bytes were saved. -/
theorem Controller.restore_fits (c : Controller) (saved : Option (List Byte)) : (c.restore saved).fits c.xramSize = true := by
  unfold Controller.restore
  split
  · rename_i bytes
    split
    · rename_i h
      unfold Memory.fits
      rw [Memory.wf_ofBytes]
      have := Memory.below_ofBytes 0 bytes
      rw [← h]; simpa using this
    · rfl
  · rfl

end Sys2Proof.Machine
end

