-- ==== Sys2Proof/Laws/Shapes.lean ====
section
/-! SUPPORT. One lemma per outcome of each shared operation: the accesses succeed, or the first that is refused ends
it. A proof about an instruction cites these and unfolds no operation. -/

namespace Sys2Proof.Machine

variable {s : State} {a v w : Word} {x y : Byte} {b c : Bus}

/-! ### Memory -/

theorem memRead_ok (h : s.bus.read a = .ok x b) : memRead a s = .ok x (s.setBus b) := by
  unfold memRead; rw [h]

theorem memRead_fatal (h : s.bus.read a = .fatal v b) :
    memRead a s = .fatal ((s.setBus b).raise (.cartridgeAccess v)) := by
  unfold memRead; rw [h]

theorem memWrite_ok (h : s.bus.write a x = .ok () b) : memWrite a x s = .ok () (s.setBus b) := by
  unfold memWrite; rw [h]

theorem memWrite_fatal (h : s.bus.write a x = .fatal v b) :
    memWrite a x s = .fatal ((s.setBus b).raise (.cartridgeAccess v)) := by
  unfold memWrite; rw [h]

theorem memWrite16_ok (h : s.bus.write a (loByte v) = .ok () b) (k : b.write (a + 1) (hiByte v) = .ok () c) :
    memWrite16 a v s = .ok () (s.setBus c) := by
  unfold memWrite16; rw [memWrite_ok h]; exact memWrite_ok (s := s.setBus b) k

theorem memWrite16_fatal (h : s.bus.write a (loByte v) = .fatal w b) :
    memWrite16 a v s = .fatal ((s.setBus b).raise (.cartridgeAccess w)) := by
  unfold memWrite16; rw [memWrite_fatal h]; rfl

theorem memWrite16_fatal_second (h : s.bus.write a (loByte v) = .ok () b)
    (k : b.write (a + 1) (hiByte v) = .fatal w c) :
    memWrite16 a v s = .fatal ((s.setBus c).raise (.cartridgeAccess w)) := by
  unfold memWrite16; rw [memWrite_ok h]; exact memWrite_fatal (s := s.setBus b) k

theorem sp_sub_two (sp : Word) : sp - 1 - 1 = sp - 2 := by bv_omega

theorem sp_add_two (sp : Word) : sp + 1 + 1 = sp + 2 := by bv_omega

theorem push16_ok (h : s.bus.write (s.cpu.sp - 1) (hiByte v) = .ok () b)
    (k : b.write (s.cpu.sp - 2) (loByte v) = .ok () c) :
    push16 v s = .ok () ((s.setBus c).setSp (s.cpu.sp - 2)) := by
  unfold push16
  rw [← sp_sub_two] at k ⊢
  show Res.bind (memWrite (s.cpu.sp - 1) (hiByte v) (s.setSp (s.cpu.sp - 1))) _ = _
  rw [memWrite_ok (s := s.setSp (s.cpu.sp - 1)) h]
  exact memWrite_ok (s := ((s.setSp (s.cpu.sp - 1)).setBus b).setSp (s.cpu.sp - 1 - 1)) k

theorem push16_fatal (h : s.bus.write (s.cpu.sp - 1) (hiByte v) = .fatal w b) :
    push16 v s = .fatal (((s.setBus b).setSp (s.cpu.sp - 1)).raise (.cartridgeAccess w)) := by
  unfold push16
  show Res.bind (memWrite (s.cpu.sp - 1) (hiByte v) (s.setSp (s.cpu.sp - 1))) _ = _
  rw [memWrite_fatal (s := s.setSp (s.cpu.sp - 1)) h]
  rfl

theorem push16_fatal_second (h : s.bus.write (s.cpu.sp - 1) (hiByte v) = .ok () b)
    (k : b.write (s.cpu.sp - 2) (loByte v) = .fatal w c) :
    push16 v s = .fatal (((s.setBus c).setSp (s.cpu.sp - 2)).raise (.cartridgeAccess w)) := by
  unfold push16
  rw [← sp_sub_two] at k ⊢
  show Res.bind (memWrite (s.cpu.sp - 1) (hiByte v) (s.setSp (s.cpu.sp - 1))) _ = _
  rw [memWrite_ok (s := s.setSp (s.cpu.sp - 1)) h]
  exact memWrite_fatal (s := ((s.setSp (s.cpu.sp - 1)).setBus b).setSp (s.cpu.sp - 1 - 1)) k

theorem pop16_ok (h : s.bus.read s.cpu.sp = .ok x b) (k : b.read (s.cpu.sp + 1) = .ok y c) :
    pop16 s = .ok (word y x) ((s.setBus c).setSp (s.cpu.sp + 2)) := by
  unfold pop16
  rw [memRead_ok h, ← sp_add_two]
  show Res.bind (memRead (s.cpu.sp + 1) ((s.setBus b).setSp (s.cpu.sp + 1))) _ = _
  rw [memRead_ok (s := (s.setBus b).setSp (s.cpu.sp + 1)) k]
  rfl

theorem pop16_fatal (h : s.bus.read s.cpu.sp = .fatal w b) :
    pop16 s = .fatal ((s.setBus b).raise (.cartridgeAccess w)) := by
  unfold pop16; rw [memRead_fatal h]; rfl

theorem pop16_fatal_second (h : s.bus.read s.cpu.sp = .ok x b) (k : b.read (s.cpu.sp + 1) = .fatal w c) :
    pop16 s = .fatal (((s.setBus c).setSp (s.cpu.sp + 1)).raise (.cartridgeAccess w)) := by
  unfold pop16
  rw [memRead_ok h]
  show Res.bind (memRead (s.cpu.sp + 1) ((s.setBus b).setSp (s.cpu.sp + 1))) _ = _
  rw [memRead_fatal (s := (s.setBus b).setSp (s.cpu.sp + 1)) k]
  rfl

/-! ### The shapes -/

variable {cost : Nat}

theorem withByte_ok {f : Byte → State → State} (h : s.bus.read a = .ok x b) :
    withByte cost a f s = .next ((f x (s.setBus b)).tick cost) := by
  unfold withByte; rw [memRead_ok h]; rfl

theorem withByte_fatal {f : Byte → State → State} (h : s.bus.read a = .fatal w b) :
    withByte cost a f s = .next ((s.setBus b).raise (.cartridgeAccess w)) := by
  unfold withByte; rw [memRead_fatal h]; rfl

theorem storeByte_ok {f : State → State} (h : s.bus.write a x = .ok () b) :
    storeByte cost a x f s = .next ((f (s.setBus b)).tick cost) := by
  unfold storeByte; rw [memWrite_ok h]; rfl

theorem storeByte_fatal {f : State → State} (h : s.bus.write a x = .fatal w b) :
    storeByte cost a x f s = .next ((s.setBus b).raise (.cartridgeAccess w)) := by
  unfold storeByte; rw [memWrite_fatal h]; rfl

theorem modifyHl_ok {f : Byte → Flags → Byte × Flags} (h : s.bus.read s.hl = .ok x b)
    (k : b.write s.hl (f x s.cpu.flags).1 = .ok () c) :
    modifyHl cost f s = .next (((s.setBus c).setFlags (f x s.cpu.flags).2).tick cost) := by
  unfold modifyHl
  rw [memRead_ok h]
  show Res.finish (Res.bind (memWrite s.hl (f x s.cpu.flags).1 (s.setBus b)) _) cost = _
  rw [memWrite_ok (s := s.setBus b) k]
  rfl

theorem modifyHl_fatal {f : Byte → Flags → Byte × Flags} (h : s.bus.read s.hl = .fatal w b) :
    modifyHl cost f s = .next ((s.setBus b).raise (.cartridgeAccess w)) := by
  unfold modifyHl; rw [memRead_fatal h]; rfl

theorem modifyHl_fatal_write {f : Byte → Flags → Byte × Flags} (h : s.bus.read s.hl = .ok x b)
    (k : b.write s.hl (f x s.cpu.flags).1 = .fatal w c) :
    modifyHl cost f s = .next ((s.setBus c).raise (.cartridgeAccess w)) := by
  unfold modifyHl
  rw [memRead_ok h]
  show Res.finish (Res.bind (memWrite s.hl (f x s.cpu.flags).1 (s.setBus b)) _) cost = _
  rw [memWrite_fatal (s := s.setBus b) k]
  rfl

theorem pushWord_ok (h : s.bus.write (s.cpu.sp - 1) (hiByte v) = .ok () b)
    (k : b.write (s.cpu.sp - 2) (loByte v) = .ok () c) :
    pushWord cost v s = .next (((s.setBus c).setSp (s.cpu.sp - 2)).tick cost) := by
  unfold pushWord; rw [push16_ok h k]; rfl

theorem pushWord_fatal (h : s.bus.write (s.cpu.sp - 1) (hiByte v) = .fatal w b) :
    pushWord cost v s = .next (((s.setBus b).setSp (s.cpu.sp - 1)).raise (.cartridgeAccess w)) := by
  unfold pushWord; rw [push16_fatal h]; rfl

theorem pushWord_fatal_second (h : s.bus.write (s.cpu.sp - 1) (hiByte v) = .ok () b)
    (k : b.write (s.cpu.sp - 2) (loByte v) = .fatal w c) :
    pushWord cost v s = .next (((s.setBus c).setSp (s.cpu.sp - 2)).raise (.cartridgeAccess w)) := by
  unfold pushWord; rw [push16_fatal_second h k]; rfl

theorem popWord_ok {f : Word → State → State} (h : s.bus.read s.cpu.sp = .ok x b)
    (k : b.read (s.cpu.sp + 1) = .ok y c) :
    popWord cost f s = .next ((f (word y x) ((s.setBus c).setSp (s.cpu.sp + 2))).tick cost) := by
  unfold popWord; rw [pop16_ok h k]; rfl

theorem popWord_fatal {f : Word → State → State} (h : s.bus.read s.cpu.sp = .fatal w b) :
    popWord cost f s = .next ((s.setBus b).raise (.cartridgeAccess w)) := by
  unfold popWord; rw [pop16_fatal h]; rfl

theorem popWord_fatal_second {f : Word → State → State} (h : s.bus.read s.cpu.sp = .ok x b)
    (k : b.read (s.cpu.sp + 1) = .fatal w c) :
    popWord cost f s = .next (((s.setBus c).setSp (s.cpu.sp + 1)).raise (.cartridgeAccess w)) := by
  unfold popWord; rw [pop16_fatal_second h k]; rfl

theorem callTo_ok (h : s.bus.write (s.cpu.sp - 1) (hiByte s.cpu.pc) = .ok () b)
    (k : b.write (s.cpu.sp - 2) (loByte s.cpu.pc) = .ok () c) :
    callTo cost v s = .next ((((s.setBus c).setSp (s.cpu.sp - 2)).setPc v).tick cost) := by
  unfold callTo; rw [push16_ok h k]; rfl

theorem callTo_fatal (h : s.bus.write (s.cpu.sp - 1) (hiByte s.cpu.pc) = .fatal w b) :
    callTo cost v s = .next (((s.setBus b).setSp (s.cpu.sp - 1)).raise (.cartridgeAccess w)) := by
  unfold callTo; rw [push16_fatal h]; rfl

theorem callTo_fatal_second (h : s.bus.write (s.cpu.sp - 1) (hiByte s.cpu.pc) = .ok () b)
    (k : b.write (s.cpu.sp - 2) (loByte s.cpu.pc) = .fatal w c) :
    callTo cost v s = .next (((s.setBus c).setSp (s.cpu.sp - 2)).raise (.cartridgeAccess w)) := by
  unfold callTo; rw [push16_fatal_second h k]; rfl

/-! ### Fetch -/

theorem fetchOp_ok (h : s.bus.read s.cpu.pc = .ok x b) (q : s.cpu.skipInc = false) :
    fetchOp s = .ok x ((s.setBus b).setPc (s.cpu.pc + 1)) := by
  unfold fetchOp
  rw [memRead_ok h]
  show Res.ok x (if s.cpu.skipInc then _ else _) = _
  rw [q]; rfl

theorem fetchOp_quirk (h : s.bus.read s.cpu.pc = .ok x b) (q : s.cpu.skipInc = true) :
    fetchOp s = .ok x ((s.setBus b).setSkipInc false) := by
  unfold fetchOp
  rw [memRead_ok h]
  show Res.ok x (if s.cpu.skipInc then _ else _) = _
  rw [q]; rfl

theorem fetchOp_fatal (h : s.bus.read s.cpu.pc = .fatal w b) :
    fetchOp s = .fatal ((s.setBus b).raise (.cartridgeAccess w)) := by
  unfold fetchOp; rw [memRead_fatal h]; rfl

theorem fetch8_ok (h : s.bus.read s.cpu.pc = .ok x b) :
    fetch8 s = .ok x ((s.setBus b).setPc (s.cpu.pc + 1)) := by
  unfold fetch8; rw [memRead_ok h]; rfl

theorem fetch16_ok (h : s.bus.read s.cpu.pc = .ok x b) (k : b.read (s.cpu.pc + 1) = .ok y c) :
    fetch16 s = .ok (word y x) ((s.setBus c).setPc (s.cpu.pc + 1 + 1)) := by
  unfold fetch16
  rw [fetch8_ok h]
  show Res.bind (fetch8 ((s.setBus b).setPc (s.cpu.pc + 1))) _ = _
  rw [fetch8_ok (s := (s.setBus b).setPc (s.cpu.pc + 1)) k]
  rfl

end Sys2Proof.Machine
end

