-- ==== Sys2Proof/Laws/Steps.lean ====
section
/-! SUPPORT. What a fetch and a Step can do to the control state, and what a phase does: so many Steps and no more; what
is left of a frame beside its lines. -/

namespace Sys2Proof.Machine

/-! ### A fetch -/

theorem State.wake_keeps (s : State) :
    s.wake.cpu.fault = s.cpu.fault ∧ s.wake.cpu.ticks = s.cpu.ticks ∧ s.wake.cpu.ime = s.cpu.ime := by
  unfold State.wake; split <;> exact ⟨rfl, rfl, rfl⟩

theorem State.Quiet.trans {s t u : State} (h : s.Quiet t) (k : t.Quiet u) : s.Quiet u :=
  ⟨⟨k.1.1.trans h.1.1, k.1.2.1.trans h.1.2.1, k.1.2.2.1.trans h.1.2.2.1, k.1.2.2.2.trans h.1.2.2.2⟩,
    k.2.1.trans h.2.1, k.2.2.trans h.2.2⟩

/-- What a fetch leaves of the control state: IME, halted and the ticks always; no error but where it is refused. -/
def Res.Fetches {α : Type} (x : Res α) (s : State) : Prop :=
  x.state.cpu.ime = s.cpu.ime ∧ x.state.cpu.halted = s.cpu.halted ∧ x.state.cpu.ticks = s.cpu.ticks ∧
    (match x with
      | .ok _ t => t.cpu.fault = s.cpu.fault
      | .fatal t => t.cpu.fault.isSome = true)

theorem Res.Fetches.bind {α β : Type} {x : Res α} {s : State} (h : x.Fetches s) {f : α → State → Res β}
    (hf : ∀ v t, (f v t).Fetches t) : (x.bind f).Fetches s := by
  cases x with
  | fatal t => exact h
  | ok v t =>
    obtain ⟨a, b, c, d⟩ := h
    obtain ⟨a', b', c', d'⟩ := hf v t
    refine ⟨a'.trans a, b'.trans b, c'.trans c, ?_⟩
    show match f v t with
      | .ok _ u => u.cpu.fault = s.cpu.fault
      | .fatal u => u.cpu.fault.isSome = true
    cases q : f v t <;> rw [q] at d'
    · exact d'.trans d
    · exact d'

theorem memRead_fetches (a : Word) (s : State) : (memRead a s).Fetches s := by
  unfold memRead; cases s.bus.read a <;> exact ⟨rfl, rfl, rfl, rfl⟩

theorem ok_fetches {α : Type} (v : α) (s t : State) (h : t.cpu.ime = s.cpu.ime ∧ t.cpu.halted = s.cpu.halted ∧
    t.cpu.ticks = s.cpu.ticks ∧ t.cpu.fault = s.cpu.fault) : (Res.ok v t).Fetches s := h

theorem fetch8_fetches (s : State) : (fetch8 s).Fetches s :=
  (memRead_fetches _ _).bind fun v s => ok_fetches v s (s.setPc (s.cpu.pc + 1)) ⟨rfl, rfl, rfl, rfl⟩

theorem fetchOp_fetches (s : State) : (fetchOp s).Fetches s :=
  (memRead_fetches _ _).bind fun v s => by
    refine ok_fetches v s _ ?_
    split <;> exact ⟨rfl, rfl, rfl, rfl⟩

theorem fetch16_fetches (s : State) : (fetch16 s).Fetches s :=
  (fetch8_fetches _).bind fun _ _ => (fetch8_fetches _).bind fun _ s => ok_fetches _ s s ⟨rfl, rfl, rfl, rfl⟩

theorem fetchInstr_fetches (s : State) : (fetchInstr s).Fetches s :=
  (fetchOp_fetches s).bind fun op s => by
    split
    · exact ok_fetches _ s s ⟨rfl, rfl, rfl, rfl⟩
    · exact (fetch8_fetches s).bind fun _ s => ok_fetches _ s s ⟨rfl, rfl, rfl, rfl⟩
    · exact (fetch16_fetches s).bind fun _ s => ok_fetches _ s s ⟨rfl, rfl, rfl, rfl⟩
    · exact (fetch8_fetches s).bind fun _ s => ok_fetches _ s s ⟨rfl, rfl, rfl, rfl⟩

/-! ### A Step -/

theorem takeInterrupt_passes (i : Fin 5) (s : State) :
    ∃ t, takeInterrupt i s = .next t ∧ t.cpu.ime = false ∧ t.cpu.halted = false ∧ s.Passes t := by
  unfold takeInterrupt
  simp only
  have h := push16_calm s.cpu.pc ((((s.setBus (s.bus.acknowledge i)).setIme false).setHalted false).setStopped false)
  have e : (((((s.setBus (s.bus.acknowledge i)).setIme false).setHalted false).setStopped false)).cpu.pc = s.cpu.pc :=
    rfl
  rw [e]
  generalize push16 s.cpu.pc ((((s.setBus (s.bus.acknowledge i)).setIme false).setHalted false).setStopped false) = r at h
  cases r with
  | ok v u => exact ⟨_, rfl, h.1.1, h.1.2.1, .inl ⟨h.2.2, by
      rw [State.tick_ticks, State.setPc_ticks, h.2.1]; exact Nat.add_le_add_left (one_le_dispatchTicks _) _⟩⟩
  | fatal u => exact ⟨_, rfl, h.1.1, h.1.2.1, .inr ⟨h.2.2, h.2.1⟩⟩

theorem State.Passes.of_eq {s s' t : State} (h1 : s'.cpu.fault = s.cpu.fault) (h2 : s'.cpu.ticks = s.cpu.ticks)
    (h : s'.Passes t) : s.Passes t := by
  unfold State.Passes at *; rw [h1, h2] at h; exact h

/-- A Step without a fatal error adds ticks, or records an error and adds none. -/
theorem step_passes (s : State) (hf : s.cpu.fault = none) : ∃ t, step s = .next t ∧ s.Passes t := by
  obtain ⟨w1, w2, _⟩ := s.wake_keeps
  unfold step
  rw [hf]
  simp only [Option.isSome_none, Bool.false_eq_true, if_false]
  split
  · obtain ⟨t, e, _, _, p⟩ := takeInterrupt_passes (by assumption) s.wake
    exact ⟨t, e, .of_eq w1 w2 p⟩
  · split
    · exact ⟨_, rfl, .inl ⟨w1, by rw [State.tick_ticks, w2]; exact Nat.add_le_add_left (one_le_idleTicks _) _⟩⟩
    · have hF := fetchInstr_fetches s.wake
      split
      · rename_i e
        rw [e] at hF
        obtain ⟨t, e, p⟩ := exec_passes (by assumption) (by assumption)
        exact ⟨t, e, .of_eq (hF.2.2.2.trans w1) (hF.2.2.1.trans w2) p⟩
      · rename_i e
        rw [e] at hF
        exact ⟨_, rfl, .inr ⟨hF.2.2.2, hF.2.2.1.trans w2⟩⟩

theorem stepped_passes (s : State) (hf : s.cpu.fault = none) : step s = .next s.stepped ∧ s.Passes s.stepped := by
  obtain ⟨t, e, p⟩ := step_passes s hf
  have : s.stepped = t := by unfold State.stepped; rw [e]
  rw [this]
  exact ⟨e, p⟩

/-- A property of the bus that every access and every acknowledgement keeps is kept by `stepped`. -/
theorem stepped_keeps (P : Bus → Prop) (hr : ∀ b a, P b → P (b.read a).after)
    (hw : ∀ b a v, P b → P (b.write a v).after) (ha : ∀ b i, P b → P (b.acknowledge i)) {s : State} (h : P s.bus) :
    P s.stepped.bus := by
  unfold State.stepped
  obtain ⟨t, e, _⟩ := step_ends s
  rw [e]
  exact step_keeps P hr hw ha e h

/-! ### What no access changes -/

/-- The OAM copy keeps what reads and stores into OAM keep. -/
theorem dmaCopy_keeps (P : Bus → Prop) (hr : ∀ b a, P b → P (b.read a).after)
    (ho : ∀ b oam, P b → P { b with oam := oam }) (v : Byte) (n i : Nat) {b : Bus} (h : P b) :
    P (Bus.dmaCopy v n i b).after := by
  induction n generalizing i b with
  | zero => exact h
  | succ n ih =>
    have k := hr b (dmaSource v i) h
    simp only [Bus.dmaCopy]
    split
    · rename_i e
      rw [e] at k
      exact ih _ (ho _ _ k)
    · rename_i e
      rw [e] at k
      exact k

theorem Bus.read_carry (b : Bus) (a : Word) : (b.read a).after.drv.carry = b.drv.carry := by
  unfold Bus.read
  split
  · show (b.afterRead a).drv.carry = _
    unfold Bus.afterRead
    split <;> rfl
  · rfl

theorem Bus.write_carry (b : Bus) (a : Word) (v : Byte) : (b.write a v).after.drv.carry = b.drv.carry := by
  unfold Bus.write
  split
  · unfold Bus.writeCart; split <;> rfl
  · rfl
  · rfl
  · rfl
  · rfl
  · rfl
  · exact dmaCopy_keeps (fun c => c.drv.carry = b.drv.carry) (fun c a h => (c.read_carry a).trans h)
      (fun _ _ h => h) _ _ _ rfl
  · rename_i r _ _
    cases r <;> first | rfl | (show (b.writeTac v).drv.carry = _; unfold Bus.writeTac; simp only; split <;> rfl)
  · rfl

theorem stepped_carry (s : State) : s.stepped.bus.drv.carry = s.bus.drv.carry :=
  stepped_keeps (fun b => b.drv.carry = s.bus.drv.carry) (fun b a h => (b.read_carry a).trans h)
    (fun b a v h => (b.write_carry a v).trans h) (fun _ _ h => h) rfl

/-! ### The parameters of the machine -/

theorem Bus.read_cfg (b : Bus) (a : Word) : (b.read a).after.cfg = b.cfg := by
  unfold Bus.read
  split
  · show (b.afterRead a).cfg = _
    unfold Bus.afterRead
    split <;> rfl
  · rfl

theorem Bus.write_cfg (b : Bus) (a : Word) (v : Byte) : (b.write a v).after.cfg = b.cfg := by
  unfold Bus.write
  split
  · unfold Bus.writeCart; split <;> rfl
  · rfl
  · rfl
  · rfl
  · rfl
  · rfl
  · exact dmaCopy_keeps (fun c => c.cfg = b.cfg) (fun c a h => (c.read_cfg a).trans h) (fun _ _ h => h) _ _ _ rfl
  · rename_i r _ _
    cases r <;> rfl
  · rfl

/-- No Step changes an OPEN parameter of the machine (log 30). -/
theorem stepped_cfg (s : State) : s.stepped.bus.cfg = s.bus.cfg :=
  stepped_keeps (fun b => b.cfg = s.bus.cfg) (fun b a h => (b.read_cfg a).trans h)
    (fun b a v h => (b.write_cfg a v).trans h) (fun _ _ h => h) rfl

/-! ### A phase -/

theorem repeat_stepped (m : Nat) (s : State) :
    Nat.repeat State.stepped (m + 1) s = Nat.repeat State.stepped m s.stepped := by
  induction m generalizing s with
  | zero => rfl
  | succ m ih => show State.stepped _ = _; rw [ih]; rfl

/-- A phase's loop with fuel enough is so many Steps: it went on before each of them, it stops after the last. -/
theorem stepUntil_spec (start target fuel : Nat) (s : State) (h1 : start ≤ s.cpu.ticks)
    (h2 : target ≤ s.cpu.ticks - start + fuel) :
    ∃ n, (∀ m, m < n → (Nat.repeat State.stepped m s).cpu.fault = none ∧
        (Nat.repeat State.stepped m s).cpu.ticks - start < target) ∧
      s.stepUntil fuel start target = Nat.repeat State.stepped n s ∧
      ¬((Nat.repeat State.stepped n s).cpu.fault = none ∧ (Nat.repeat State.stepped n s).cpu.ticks - start < target) ∧
      (∀ m, m ≤ n → start ≤ (Nat.repeat State.stepped m s).cpu.ticks) ∧
      (Nat.repeat State.stepped n s).bus.drv.carry = s.bus.drv.carry := by
  induction fuel generalizing s with
  | zero =>
    refine ⟨0, fun m h => by omega, rfl, ?_, fun m h => ?_, rfl⟩
    · show ¬(_ ∧ s.cpu.ticks - start < target); omega
    · cases Nat.le_zero.mp h; exact h1
  | succ fuel ih =>
    unfold State.stepUntil
    by_cases hc : s.cpu.fault = none ∧ s.cpu.ticks - start < target
    · rw [if_pos (by simp [hc.1, hc.2])]
      obtain ⟨_, p⟩ := stepped_passes s hc.1
      rcases p with ⟨_, p2⟩ | ⟨p1, p2⟩
      · obtain ⟨n, q1, q2, q3, q4, q5⟩ := ih s.stepped (by omega) (by omega)
        refine ⟨n + 1, ?_, ?_, ?_, ?_, ?_⟩
        · intro m hm
          cases m with
          | zero => exact hc
          | succ m => rw [repeat_stepped]; exact q1 m (by omega)
        · rw [q2, repeat_stepped]
        · rw [repeat_stepped]; exact q3
        · intro m hm
          cases m with
          | zero => exact h1
          | succ m => rw [repeat_stepped]; exact q4 m (by omega)
        · rw [repeat_stepped, q5, stepped_carry]
      · refine ⟨1, ?_, ?_, ?_, ?_, stepped_carry s⟩
        · intro m hm
          cases (show m = 0 by omega)
          exact hc
        · show State.stepUntil fuel start target s.stepped = s.stepped
          cases fuel with
          | zero => rfl
          | succ f =>
            unfold State.stepUntil
            rw [if_neg]
            revert p1
            cases s.stepped.cpu.fault <;> simp
        · intro h
          change s.stepped.cpu.fault = none ∧ _ at h
          rw [h.1] at p1
          cases p1
        · intro m hm
          rcases (show m = 0 ∨ m = 1 by omega) with rfl | rfl
          · exact h1
          · show start ≤ s.stepped.cpu.ticks; omega
    · rw [if_neg (by simpa using hc)]
      refine ⟨0, fun m h => by omega, rfl, hc, fun m h => ?_, rfl⟩
      cases Nat.le_zero.mp h
      exact h1

/-! ### A frame -/

theorem endFrame_cases (pcm : List Int → List Byte) (render : Bool) (s : State) :
    (s.cpu.fault ≠ none ∧ (s.endFrame pcm render).1 = s) ∨ (s.cpu.fault = none ∧
      ∃ snd, (s.endFrame pcm render).1 = s.onBus fun b => { b with snd := snd, draws := b.draws + 1 }) := by
  unfold State.endFrame
  by_cases h : s.cpu.fault = none
  · rw [if_neg (by rw [h]; decide)]
    exact .inr ⟨h, _, rfl⟩
  · rw [if_pos (Option.isSome_iff_ne_none.mpr h)]
    exact .inl ⟨h, rfl⟩

theorem runFrame_of_fault (pcm : List Int → List Byte) (s : State) (h : s.cpu.fault ≠ none) : (runFrame pcm s).1 = s := by
  unfold runFrame
  rw [if_pos (Option.isSome_iff_ne_none.mpr h)]

theorem runFrame_of_none (pcm : List Int → List Byte) (s : State) (h : s.cpu.fault = none) :
    runFrame pcm s = ((s.onBus fun b => { b with draws := b.draws + 1 }).frameLines
      (Config.freeRender s.bus.draws)).endFrame pcm (Config.freeRender s.bus.draws) := by
  unfold runFrame
  rw [if_neg (by rw [h]; decide)]

/-- A frame without a fatal error is its lines, at the end of which the sound generators and the draws move on. -/
theorem runFrame_completes (pcm : List Int → List Byte) (s : State) (h : (runFrame pcm s).1.cpu.fault = none) :
    s.cpu.fault = none ∧ ∃ t snd,
      t = (s.onBus fun b => { b with draws := b.draws + 1 }).frameLines (Config.freeRender s.bus.draws) ∧
      t.cpu.fault = none ∧ (runFrame pcm s).1 = t.onBus fun b => { b with snd := snd, draws := b.draws + 1 } := by
  by_cases hs : s.cpu.fault = none
  · rw [runFrame_of_none pcm s hs] at h ⊢
    generalize (s.onBus fun b => { b with draws := b.draws + 1 }).frameLines (Config.freeRender s.bus.draws) = t at h ⊢
    rcases endFrame_cases pcm (Config.freeRender s.bus.draws) t with ⟨k, e⟩ | ⟨k, snd, e⟩
    · exact absurd (e ▸ h) k
    · exact ⟨hs, t, snd, rfl, k, e⟩
  · exact absurd (runFrame_of_fault pcm s hs ▸ h) hs

end Sys2Proof.Machine
end

