-- ==== Sys2Proof/Tests/Slice0.lean ====
section
/-! SUPPORT. Tests of the model, each expected result taken from spec/ (the section or rule is named), and for every
statement with hypotheses a concrete state that meets them (`witness_<statement>`). -/

namespace Sys2Proof.Tests

open Sys2Proof Sys2Proof.Machine

/-! ## Well-formed terms (30_encoding.md R127, R133) -/

theorem test_wellformed_refuses :
    (Instr.illegal 0x00).wellFormed = false ∧ (Instr.illegal 0xCB).wellFormed = false ∧
      (Instr.illegal 0xD2).wellFormed = false ∧ (Instr.illegal 0xFF).wellFormed = false := by decide

theorem test_wellformed_accepts :
    (Instr.illegal 0xD3).wellFormed = true ∧ (Instr.illegal 0xFD).wellFormed = true ∧
      (Instr.stop 0xFF).wellFormed = true ∧ (Instr.ld_a_mnn 0xFFFF).wellFormed = true := by decide

/-! ## Decoding: the bytes of every row of spec/opcode_table.json (operand bytes 0x5A, operand word 0x1234) -/

theorem test_decode_0 :
    [decode [0x00], decode [0x01, 0x34, 0x12], decode [0x02], decode [0x03], decode [0x04], decode [0x05],
     decode [0x06, 0x5A], decode [0x07], decode [0x08, 0x34, 0x12], decode [0x09], decode [0x0A], decode [0x0B],
     decode [0x0C], decode [0x0D], decode [0x0E, 0x5A], decode [0x0F]] =
    [.ok (.nop, []), .ok (.ld_bc_nn 0x1234, []), .ok (.ld_mbc_a, []), .ok (.inc_bc, []), .ok (.inc_b, []), .ok
     (.dec_b, []), .ok (.ld_b_n 0x5A, []), .ok (.rlca, []), .ok (.ld_mnn_sp 0x1234, []), .ok (.add_hl_bc, []),
     .ok (.ld_a_mbc, []), .ok (.dec_bc, []), .ok (.inc_c, []), .ok (.dec_c, []), .ok (.ld_c_n 0x5A, []), .ok
     (.rrca, [])] := rfl

theorem test_decode_1 :
    [decode [0x10, 0x5A], decode [0x11, 0x34, 0x12], decode [0x12], decode [0x13], decode [0x14], decode [0x15],
     decode [0x16, 0x5A], decode [0x17], decode [0x18, 0x5A], decode [0x19], decode [0x1A], decode [0x1B],
     decode [0x1C], decode [0x1D], decode [0x1E, 0x5A], decode [0x1F]] =
    [.ok (.stop 0x5A, []), .ok (.ld_de_nn 0x1234, []), .ok (.ld_mde_a, []), .ok (.inc_de, []), .ok (.inc_d, []),
     .ok (.dec_d, []), .ok (.ld_d_n 0x5A, []), .ok (.rla, []), .ok (.jr_e 0x5A, []), .ok (.add_hl_de, []), .ok
     (.ld_a_mde, []), .ok (.dec_de, []), .ok (.inc_e, []), .ok (.dec_e, []), .ok (.ld_e_n 0x5A, []), .ok (.rra,
     [])] := rfl

theorem test_decode_2 :
    [decode [0x20, 0x5A], decode [0x21, 0x34, 0x12], decode [0x22], decode [0x23], decode [0x24], decode [0x25],
     decode [0x26, 0x5A], decode [0x27], decode [0x28, 0x5A], decode [0x29], decode [0x2A], decode [0x2B],
     decode [0x2C], decode [0x2D], decode [0x2E, 0x5A], decode [0x2F]] =
    [.ok (.jr_nz_e 0x5A, []), .ok (.ld_hl_nn 0x1234, []), .ok (.ld_mhli_a, []), .ok (.inc_hl, []), .ok (.inc_h,
     []), .ok (.dec_h, []), .ok (.ld_h_n 0x5A, []), .ok (.daa, []), .ok (.jr_z_e 0x5A, []), .ok (.add_hl_hl,
     []), .ok (.ld_a_mhli, []), .ok (.dec_hl, []), .ok (.inc_l, []), .ok (.dec_l, []), .ok (.ld_l_n 0x5A, []),
     .ok (.cpl, [])] := rfl

theorem test_decode_3 :
    [decode [0x30, 0x5A], decode [0x31, 0x34, 0x12], decode [0x32], decode [0x33], decode [0x34], decode [0x35],
     decode [0x36, 0x5A], decode [0x37], decode [0x38, 0x5A], decode [0x39], decode [0x3A], decode [0x3B],
     decode [0x3C], decode [0x3D], decode [0x3E, 0x5A], decode [0x3F]] =
    [.ok (.jr_nc_e 0x5A, []), .ok (.ld_sp_nn 0x1234, []), .ok (.ld_mhld_a, []), .ok (.inc_sp, []), .ok
     (.inc_mhl, []), .ok (.dec_mhl, []), .ok (.ld_mhl_n 0x5A, []), .ok (.scf, []), .ok (.jr_c_e 0x5A, []), .ok
     (.add_hl_sp, []), .ok (.ld_a_mhld, []), .ok (.dec_sp, []), .ok (.inc_a, []), .ok (.dec_a, []), .ok (.ld_a_n
     0x5A, []), .ok (.ccf, [])] := rfl

theorem test_decode_4 :
    [decode [0x40], decode [0x41], decode [0x42], decode [0x43], decode [0x44], decode [0x45], decode [0x46],
     decode [0x47], decode [0x48], decode [0x49], decode [0x4A], decode [0x4B], decode [0x4C], decode [0x4D],
     decode [0x4E], decode [0x4F]] =
    [.ok (.ld_b_b, []), .ok (.ld_b_c, []), .ok (.ld_b_d, []), .ok (.ld_b_e, []), .ok (.ld_b_h, []), .ok
     (.ld_b_l, []), .ok (.ld_b_mhl, []), .ok (.ld_b_a, []), .ok (.ld_c_b, []), .ok (.ld_c_c, []), .ok (.ld_c_d,
     []), .ok (.ld_c_e, []), .ok (.ld_c_h, []), .ok (.ld_c_l, []), .ok (.ld_c_mhl, []), .ok (.ld_c_a, [])] := rfl

theorem test_decode_5 :
    [decode [0x50], decode [0x51], decode [0x52], decode [0x53], decode [0x54], decode [0x55], decode [0x56],
     decode [0x57], decode [0x58], decode [0x59], decode [0x5A], decode [0x5B], decode [0x5C], decode [0x5D],
     decode [0x5E], decode [0x5F]] =
    [.ok (.ld_d_b, []), .ok (.ld_d_c, []), .ok (.ld_d_d, []), .ok (.ld_d_e, []), .ok (.ld_d_h, []), .ok
     (.ld_d_l, []), .ok (.ld_d_mhl, []), .ok (.ld_d_a, []), .ok (.ld_e_b, []), .ok (.ld_e_c, []), .ok (.ld_e_d,
     []), .ok (.ld_e_e, []), .ok (.ld_e_h, []), .ok (.ld_e_l, []), .ok (.ld_e_mhl, []), .ok (.ld_e_a, [])] := rfl

theorem test_decode_6 :
    [decode [0x60], decode [0x61], decode [0x62], decode [0x63], decode [0x64], decode [0x65], decode [0x66],
     decode [0x67], decode [0x68], decode [0x69], decode [0x6A], decode [0x6B], decode [0x6C], decode [0x6D],
     decode [0x6E], decode [0x6F]] =
    [.ok (.ld_h_b, []), .ok (.ld_h_c, []), .ok (.ld_h_d, []), .ok (.ld_h_e, []), .ok (.ld_h_h, []), .ok
     (.ld_h_l, []), .ok (.ld_h_mhl, []), .ok (.ld_h_a, []), .ok (.ld_l_b, []), .ok (.ld_l_c, []), .ok (.ld_l_d,
     []), .ok (.ld_l_e, []), .ok (.ld_l_h, []), .ok (.ld_l_l, []), .ok (.ld_l_mhl, []), .ok (.ld_l_a, [])] := rfl

theorem test_decode_7 :
    [decode [0x70], decode [0x71], decode [0x72], decode [0x73], decode [0x74], decode [0x75], decode [0x76],
     decode [0x77], decode [0x78], decode [0x79], decode [0x7A], decode [0x7B], decode [0x7C], decode [0x7D],
     decode [0x7E], decode [0x7F]] =
    [.ok (.ld_mhl_b, []), .ok (.ld_mhl_c, []), .ok (.ld_mhl_d, []), .ok (.ld_mhl_e, []), .ok (.ld_mhl_h, []),
     .ok (.ld_mhl_l, []), .ok (.halt, []), .ok (.ld_mhl_a, []), .ok (.ld_a_b, []), .ok (.ld_a_c, []), .ok
     (.ld_a_d, []), .ok (.ld_a_e, []), .ok (.ld_a_h, []), .ok (.ld_a_l, []), .ok (.ld_a_mhl, []), .ok (.ld_a_a,
     [])] := rfl

theorem test_decode_8 :
    [decode [0x80], decode [0x81], decode [0x82], decode [0x83], decode [0x84], decode [0x85], decode [0x86],
     decode [0x87], decode [0x88], decode [0x89], decode [0x8A], decode [0x8B], decode [0x8C], decode [0x8D],
     decode [0x8E], decode [0x8F]] =
    [.ok (.add_a_b, []), .ok (.add_a_c, []), .ok (.add_a_d, []), .ok (.add_a_e, []), .ok (.add_a_h, []), .ok
     (.add_a_l, []), .ok (.add_a_mhl, []), .ok (.add_a_a, []), .ok (.adc_a_b, []), .ok (.adc_a_c, []), .ok
     (.adc_a_d, []), .ok (.adc_a_e, []), .ok (.adc_a_h, []), .ok (.adc_a_l, []), .ok (.adc_a_mhl, []), .ok
     (.adc_a_a, [])] := rfl

theorem test_decode_9 :
    [decode [0x90], decode [0x91], decode [0x92], decode [0x93], decode [0x94], decode [0x95], decode [0x96],
     decode [0x97], decode [0x98], decode [0x99], decode [0x9A], decode [0x9B], decode [0x9C], decode [0x9D],
     decode [0x9E], decode [0x9F]] =
    [.ok (.sub_b, []), .ok (.sub_c, []), .ok (.sub_d, []), .ok (.sub_e, []), .ok (.sub_h, []), .ok (.sub_l, []),
     .ok (.sub_mhl, []), .ok (.sub_a, []), .ok (.sbc_a_b, []), .ok (.sbc_a_c, []), .ok (.sbc_a_d, []), .ok
     (.sbc_a_e, []), .ok (.sbc_a_h, []), .ok (.sbc_a_l, []), .ok (.sbc_a_mhl, []), .ok (.sbc_a_a, [])] := rfl

theorem test_decode_a :
    [decode [0xA0], decode [0xA1], decode [0xA2], decode [0xA3], decode [0xA4], decode [0xA5], decode [0xA6],
     decode [0xA7], decode [0xA8], decode [0xA9], decode [0xAA], decode [0xAB], decode [0xAC], decode [0xAD],
     decode [0xAE], decode [0xAF]] =
    [.ok (.and_b, []), .ok (.and_c, []), .ok (.and_d, []), .ok (.and_e, []), .ok (.and_h, []), .ok (.and_l, []),
     .ok (.and_mhl, []), .ok (.and_a, []), .ok (.xor_b, []), .ok (.xor_c, []), .ok (.xor_d, []), .ok (.xor_e,
     []), .ok (.xor_h, []), .ok (.xor_l, []), .ok (.xor_mhl, []), .ok (.xor_a, [])] := rfl

theorem test_decode_b :
    [decode [0xB0], decode [0xB1], decode [0xB2], decode [0xB3], decode [0xB4], decode [0xB5], decode [0xB6],
     decode [0xB7], decode [0xB8], decode [0xB9], decode [0xBA], decode [0xBB], decode [0xBC], decode [0xBD],
     decode [0xBE], decode [0xBF]] =
    [.ok (.or_b, []), .ok (.or_c, []), .ok (.or_d, []), .ok (.or_e, []), .ok (.or_h, []), .ok (.or_l, []), .ok
     (.or_mhl, []), .ok (.or_a, []), .ok (.cp_b, []), .ok (.cp_c, []), .ok (.cp_d, []), .ok (.cp_e, []), .ok
     (.cp_h, []), .ok (.cp_l, []), .ok (.cp_mhl, []), .ok (.cp_a, [])] := rfl

theorem test_decode_c :
    [decode [0xC0], decode [0xC1], decode [0xC2, 0x34, 0x12], decode [0xC3, 0x34, 0x12], decode [0xC4, 0x34,
     0x12], decode [0xC5], decode [0xC6, 0x5A], decode [0xC7], decode [0xC8], decode [0xC9], decode [0xCA, 0x34,
     0x12], decode [0xCC, 0x34, 0x12], decode [0xCD, 0x34, 0x12], decode [0xCE, 0x5A], decode [0xCF]] =
    [.ok (.ret_nz, []), .ok (.pop_bc, []), .ok (.jp_nz_nn 0x1234, []), .ok (.jp_nn 0x1234, []), .ok (.call_nz_nn
     0x1234, []), .ok (.push_bc, []), .ok (.add_a_n 0x5A, []), .ok (.rst_00, []), .ok (.ret_z, []), .ok (.ret,
     []), .ok (.jp_z_nn 0x1234, []), .ok (.call_z_nn 0x1234, []), .ok (.call_nn 0x1234, []), .ok (.adc_a_n 0x5A,
     []), .ok (.rst_08, [])] := rfl

theorem test_decode_d :
    [decode [0xD0], decode [0xD1], decode [0xD2, 0x34, 0x12], decode [0xD3], decode [0xD4, 0x34, 0x12], decode [0xD5], decode [0xD6, 0x5A], decode [0xD7], decode [0xD8], decode [0xD9], decode [0xDA, 0x34, 0x12], decode [0xDB], decode [0xDC, 0x34, 0x12], decode [0xDD], decode [0xDE, 0x5A], decode [0xDF]] =
    [.ok (.ret_nc, []), .ok (.pop_de, []), .ok (.jp_nc_nn 0x1234, []), .ok (.illegal 0xD3, []), .ok (.call_nc_nn
     0x1234, []), .ok (.push_de, []), .ok (.sub_n 0x5A, []), .ok (.rst_10, []), .ok (.ret_c, []), .ok (.reti,
     []), .ok (.jp_c_nn 0x1234, []), .ok (.illegal 0xDB, []), .ok (.call_c_nn 0x1234, []), .ok (.illegal 0xDD,
     []), .ok (.sbc_a_n 0x5A, []), .ok (.rst_18, [])] := rfl

theorem test_decode_e :
    [decode [0xE0, 0x5A], decode [0xE1], decode [0xE2], decode [0xE3], decode [0xE4], decode [0xE5], decode [0xE6, 0x5A], decode [0xE7], decode [0xE8, 0x5A], decode [0xE9], decode [0xEA, 0x34, 0x12], decode [0xEB],
     decode [0xEC], decode [0xED], decode [0xEE, 0x5A], decode [0xEF]] =
    [.ok (.ldh_mn_a 0x5A, []), .ok (.pop_hl, []), .ok (.ldh_mc_a, []), .ok (.illegal 0xE3, []), .ok (.illegal
     0xE4, []), .ok (.push_hl, []), .ok (.and_n 0x5A, []), .ok (.rst_20, []), .ok (.add_sp_e 0x5A, []), .ok
     (.jp_hl, []), .ok (.ld_mnn_a 0x1234, []), .ok (.illegal 0xEB, []), .ok (.illegal 0xEC, []), .ok (.illegal
     0xED, []), .ok (.xor_n 0x5A, []), .ok (.rst_28, [])] := rfl

theorem test_decode_f :
    [decode [0xF0, 0x5A], decode [0xF1], decode [0xF2], decode [0xF3], decode [0xF4], decode [0xF5], decode [0xF6, 0x5A], decode [0xF7], decode [0xF8, 0x5A], decode [0xF9], decode [0xFA, 0x34, 0x12], decode [0xFB],
     decode [0xFC], decode [0xFD], decode [0xFE, 0x5A], decode [0xFF]] =
    [.ok (.ldh_a_mn 0x5A, []), .ok (.pop_af, []), .ok (.ldh_a_mc, []), .ok (.di, []), .ok (.illegal 0xF4, []),
     .ok (.push_af, []), .ok (.or_n 0x5A, []), .ok (.rst_30, []), .ok (.ld_hl_sp_e 0x5A, []), .ok (.ld_sp_hl,
     []), .ok (.ld_a_mnn 0x1234, []), .ok (.ei, []), .ok (.illegal 0xFC, []), .ok (.illegal 0xFD, []), .ok
     (.cp_n 0x5A, []), .ok (.rst_38, [])] := rfl

theorem test_decode_cb_0 :
    [decode [0xCB, 0x00], decode [0xCB, 0x01], decode [0xCB, 0x02], decode [0xCB, 0x03], decode [0xCB, 0x04],
     decode [0xCB, 0x05], decode [0xCB, 0x06], decode [0xCB, 0x07], decode [0xCB, 0x08], decode [0xCB, 0x09],
     decode [0xCB, 0x0A], decode [0xCB, 0x0B], decode [0xCB, 0x0C], decode [0xCB, 0x0D], decode [0xCB, 0x0E],
     decode [0xCB, 0x0F]] =
    [.ok (.rlc_b, []), .ok (.rlc_c, []), .ok (.rlc_d, []), .ok (.rlc_e, []), .ok (.rlc_h, []), .ok (.rlc_l, []),
     .ok (.rlc_mhl, []), .ok (.rlc_a, []), .ok (.rrc_b, []), .ok (.rrc_c, []), .ok (.rrc_d, []), .ok (.rrc_e,
     []), .ok (.rrc_h, []), .ok (.rrc_l, []), .ok (.rrc_mhl, []), .ok (.rrc_a, [])] := rfl

theorem test_decode_cb_1 :
    [decode [0xCB, 0x10], decode [0xCB, 0x11], decode [0xCB, 0x12], decode [0xCB, 0x13], decode [0xCB, 0x14],
     decode [0xCB, 0x15], decode [0xCB, 0x16], decode [0xCB, 0x17], decode [0xCB, 0x18], decode [0xCB, 0x19],
     decode [0xCB, 0x1A], decode [0xCB, 0x1B], decode [0xCB, 0x1C], decode [0xCB, 0x1D], decode [0xCB, 0x1E],
     decode [0xCB, 0x1F]] =
    [.ok (.rl_b, []), .ok (.rl_c, []), .ok (.rl_d, []), .ok (.rl_e, []), .ok (.rl_h, []), .ok (.rl_l, []), .ok
     (.rl_mhl, []), .ok (.rl_a, []), .ok (.rr_b, []), .ok (.rr_c, []), .ok (.rr_d, []), .ok (.rr_e, []), .ok
     (.rr_h, []), .ok (.rr_l, []), .ok (.rr_mhl, []), .ok (.rr_a, [])] := rfl

theorem test_decode_cb_2 :
    [decode [0xCB, 0x20], decode [0xCB, 0x21], decode [0xCB, 0x22], decode [0xCB, 0x23], decode [0xCB, 0x24],
     decode [0xCB, 0x25], decode [0xCB, 0x26], decode [0xCB, 0x27], decode [0xCB, 0x28], decode [0xCB, 0x29],
     decode [0xCB, 0x2A], decode [0xCB, 0x2B], decode [0xCB, 0x2C], decode [0xCB, 0x2D], decode [0xCB, 0x2E],
     decode [0xCB, 0x2F]] =
    [.ok (.sla_b, []), .ok (.sla_c, []), .ok (.sla_d, []), .ok (.sla_e, []), .ok (.sla_h, []), .ok (.sla_l, []),
     .ok (.sla_mhl, []), .ok (.sla_a, []), .ok (.sra_b, []), .ok (.sra_c, []), .ok (.sra_d, []), .ok (.sra_e,
     []), .ok (.sra_h, []), .ok (.sra_l, []), .ok (.sra_mhl, []), .ok (.sra_a, [])] := rfl

theorem test_decode_cb_3 :
    [decode [0xCB, 0x30], decode [0xCB, 0x31], decode [0xCB, 0x32], decode [0xCB, 0x33], decode [0xCB, 0x34],
     decode [0xCB, 0x35], decode [0xCB, 0x36], decode [0xCB, 0x37], decode [0xCB, 0x38], decode [0xCB, 0x39],
     decode [0xCB, 0x3A], decode [0xCB, 0x3B], decode [0xCB, 0x3C], decode [0xCB, 0x3D], decode [0xCB, 0x3E],
     decode [0xCB, 0x3F]] =
    [.ok (.swap_b, []), .ok (.swap_c, []), .ok (.swap_d, []), .ok (.swap_e, []), .ok (.swap_h, []), .ok
     (.swap_l, []), .ok (.swap_mhl, []), .ok (.swap_a, []), .ok (.srl_b, []), .ok (.srl_c, []), .ok (.srl_d,
     []), .ok (.srl_e, []), .ok (.srl_h, []), .ok (.srl_l, []), .ok (.srl_mhl, []), .ok (.srl_a, [])] := rfl

theorem test_decode_cb_4 :
    [decode [0xCB, 0x40], decode [0xCB, 0x41], decode [0xCB, 0x42], decode [0xCB, 0x43], decode [0xCB, 0x44],
     decode [0xCB, 0x45], decode [0xCB, 0x46], decode [0xCB, 0x47], decode [0xCB, 0x48], decode [0xCB, 0x49],
     decode [0xCB, 0x4A], decode [0xCB, 0x4B], decode [0xCB, 0x4C], decode [0xCB, 0x4D], decode [0xCB, 0x4E],
     decode [0xCB, 0x4F]] =
    [.ok (.bit_0_b, []), .ok (.bit_0_c, []), .ok (.bit_0_d, []), .ok (.bit_0_e, []), .ok (.bit_0_h, []), .ok
     (.bit_0_l, []), .ok (.bit_0_mhl, []), .ok (.bit_0_a, []), .ok (.bit_1_b, []), .ok (.bit_1_c, []), .ok
     (.bit_1_d, []), .ok (.bit_1_e, []), .ok (.bit_1_h, []), .ok (.bit_1_l, []), .ok (.bit_1_mhl, []), .ok
     (.bit_1_a, [])] := rfl

theorem test_decode_cb_5 :
    [decode [0xCB, 0x50], decode [0xCB, 0x51], decode [0xCB, 0x52], decode [0xCB, 0x53], decode [0xCB, 0x54],
     decode [0xCB, 0x55], decode [0xCB, 0x56], decode [0xCB, 0x57], decode [0xCB, 0x58], decode [0xCB, 0x59],
     decode [0xCB, 0x5A], decode [0xCB, 0x5B], decode [0xCB, 0x5C], decode [0xCB, 0x5D], decode [0xCB, 0x5E],
     decode [0xCB, 0x5F]] =
    [.ok (.bit_2_b, []), .ok (.bit_2_c, []), .ok (.bit_2_d, []), .ok (.bit_2_e, []), .ok (.bit_2_h, []), .ok
     (.bit_2_l, []), .ok (.bit_2_mhl, []), .ok (.bit_2_a, []), .ok (.bit_3_b, []), .ok (.bit_3_c, []), .ok
     (.bit_3_d, []), .ok (.bit_3_e, []), .ok (.bit_3_h, []), .ok (.bit_3_l, []), .ok (.bit_3_mhl, []), .ok
     (.bit_3_a, [])] := rfl

theorem test_decode_cb_6 :
    [decode [0xCB, 0x60], decode [0xCB, 0x61], decode [0xCB, 0x62], decode [0xCB, 0x63], decode [0xCB, 0x64],
     decode [0xCB, 0x65], decode [0xCB, 0x66], decode [0xCB, 0x67], decode [0xCB, 0x68], decode [0xCB, 0x69],
     decode [0xCB, 0x6A], decode [0xCB, 0x6B], decode [0xCB, 0x6C], decode [0xCB, 0x6D], decode [0xCB, 0x6E],
     decode [0xCB, 0x6F]] =
    [.ok (.bit_4_b, []), .ok (.bit_4_c, []), .ok (.bit_4_d, []), .ok (.bit_4_e, []), .ok (.bit_4_h, []), .ok
     (.bit_4_l, []), .ok (.bit_4_mhl, []), .ok (.bit_4_a, []), .ok (.bit_5_b, []), .ok (.bit_5_c, []), .ok
     (.bit_5_d, []), .ok (.bit_5_e, []), .ok (.bit_5_h, []), .ok (.bit_5_l, []), .ok (.bit_5_mhl, []), .ok
     (.bit_5_a, [])] := rfl

theorem test_decode_cb_7 :
    [decode [0xCB, 0x70], decode [0xCB, 0x71], decode [0xCB, 0x72], decode [0xCB, 0x73], decode [0xCB, 0x74],
     decode [0xCB, 0x75], decode [0xCB, 0x76], decode [0xCB, 0x77], decode [0xCB, 0x78], decode [0xCB, 0x79],
     decode [0xCB, 0x7A], decode [0xCB, 0x7B], decode [0xCB, 0x7C], decode [0xCB, 0x7D], decode [0xCB, 0x7E],
     decode [0xCB, 0x7F]] =
    [.ok (.bit_6_b, []), .ok (.bit_6_c, []), .ok (.bit_6_d, []), .ok (.bit_6_e, []), .ok (.bit_6_h, []), .ok
     (.bit_6_l, []), .ok (.bit_6_mhl, []), .ok (.bit_6_a, []), .ok (.bit_7_b, []), .ok (.bit_7_c, []), .ok
     (.bit_7_d, []), .ok (.bit_7_e, []), .ok (.bit_7_h, []), .ok (.bit_7_l, []), .ok (.bit_7_mhl, []), .ok
     (.bit_7_a, [])] := rfl

theorem test_decode_cb_8 :
    [decode [0xCB, 0x80], decode [0xCB, 0x81], decode [0xCB, 0x82], decode [0xCB, 0x83], decode [0xCB, 0x84],
     decode [0xCB, 0x85], decode [0xCB, 0x86], decode [0xCB, 0x87], decode [0xCB, 0x88], decode [0xCB, 0x89],
     decode [0xCB, 0x8A], decode [0xCB, 0x8B], decode [0xCB, 0x8C], decode [0xCB, 0x8D], decode [0xCB, 0x8E],
     decode [0xCB, 0x8F]] =
    [.ok (.res_0_b, []), .ok (.res_0_c, []), .ok (.res_0_d, []), .ok (.res_0_e, []), .ok (.res_0_h, []), .ok
     (.res_0_l, []), .ok (.res_0_mhl, []), .ok (.res_0_a, []), .ok (.res_1_b, []), .ok (.res_1_c, []), .ok
     (.res_1_d, []), .ok (.res_1_e, []), .ok (.res_1_h, []), .ok (.res_1_l, []), .ok (.res_1_mhl, []), .ok
     (.res_1_a, [])] := rfl

theorem test_decode_cb_9 :
    [decode [0xCB, 0x90], decode [0xCB, 0x91], decode [0xCB, 0x92], decode [0xCB, 0x93], decode [0xCB, 0x94],
     decode [0xCB, 0x95], decode [0xCB, 0x96], decode [0xCB, 0x97], decode [0xCB, 0x98], decode [0xCB, 0x99],
     decode [0xCB, 0x9A], decode [0xCB, 0x9B], decode [0xCB, 0x9C], decode [0xCB, 0x9D], decode [0xCB, 0x9E],
     decode [0xCB, 0x9F]] =
    [.ok (.res_2_b, []), .ok (.res_2_c, []), .ok (.res_2_d, []), .ok (.res_2_e, []), .ok (.res_2_h, []), .ok
     (.res_2_l, []), .ok (.res_2_mhl, []), .ok (.res_2_a, []), .ok (.res_3_b, []), .ok (.res_3_c, []), .ok
     (.res_3_d, []), .ok (.res_3_e, []), .ok (.res_3_h, []), .ok (.res_3_l, []), .ok (.res_3_mhl, []), .ok
     (.res_3_a, [])] := rfl

theorem test_decode_cb_a :
    [decode [0xCB, 0xA0], decode [0xCB, 0xA1], decode [0xCB, 0xA2], decode [0xCB, 0xA3], decode [0xCB, 0xA4],
     decode [0xCB, 0xA5], decode [0xCB, 0xA6], decode [0xCB, 0xA7], decode [0xCB, 0xA8], decode [0xCB, 0xA9],
     decode [0xCB, 0xAA], decode [0xCB, 0xAB], decode [0xCB, 0xAC], decode [0xCB, 0xAD], decode [0xCB, 0xAE],
     decode [0xCB, 0xAF]] =
    [.ok (.res_4_b, []), .ok (.res_4_c, []), .ok (.res_4_d, []), .ok (.res_4_e, []), .ok (.res_4_h, []), .ok
     (.res_4_l, []), .ok (.res_4_mhl, []), .ok (.res_4_a, []), .ok (.res_5_b, []), .ok (.res_5_c, []), .ok
     (.res_5_d, []), .ok (.res_5_e, []), .ok (.res_5_h, []), .ok (.res_5_l, []), .ok (.res_5_mhl, []), .ok
     (.res_5_a, [])] := rfl

theorem test_decode_cb_b :
    [decode [0xCB, 0xB0], decode [0xCB, 0xB1], decode [0xCB, 0xB2], decode [0xCB, 0xB3], decode [0xCB, 0xB4],
     decode [0xCB, 0xB5], decode [0xCB, 0xB6], decode [0xCB, 0xB7], decode [0xCB, 0xB8], decode [0xCB, 0xB9],
     decode [0xCB, 0xBA], decode [0xCB, 0xBB], decode [0xCB, 0xBC], decode [0xCB, 0xBD], decode [0xCB, 0xBE],
     decode [0xCB, 0xBF]] =
    [.ok (.res_6_b, []), .ok (.res_6_c, []), .ok (.res_6_d, []), .ok (.res_6_e, []), .ok (.res_6_h, []), .ok
     (.res_6_l, []), .ok (.res_6_mhl, []), .ok (.res_6_a, []), .ok (.res_7_b, []), .ok (.res_7_c, []), .ok
     (.res_7_d, []), .ok (.res_7_e, []), .ok (.res_7_h, []), .ok (.res_7_l, []), .ok (.res_7_mhl, []), .ok
     (.res_7_a, [])] := rfl

theorem test_decode_cb_c :
    [decode [0xCB, 0xC0], decode [0xCB, 0xC1], decode [0xCB, 0xC2], decode [0xCB, 0xC3], decode [0xCB, 0xC4],
     decode [0xCB, 0xC5], decode [0xCB, 0xC6], decode [0xCB, 0xC7], decode [0xCB, 0xC8], decode [0xCB, 0xC9],
     decode [0xCB, 0xCA], decode [0xCB, 0xCB], decode [0xCB, 0xCC], decode [0xCB, 0xCD], decode [0xCB, 0xCE],
     decode [0xCB, 0xCF]] =
    [.ok (.set_0_b, []), .ok (.set_0_c, []), .ok (.set_0_d, []), .ok (.set_0_e, []), .ok (.set_0_h, []), .ok
     (.set_0_l, []), .ok (.set_0_mhl, []), .ok (.set_0_a, []), .ok (.set_1_b, []), .ok (.set_1_c, []), .ok
     (.set_1_d, []), .ok (.set_1_e, []), .ok (.set_1_h, []), .ok (.set_1_l, []), .ok (.set_1_mhl, []), .ok
     (.set_1_a, [])] := rfl

theorem test_decode_cb_d :
    [decode [0xCB, 0xD0], decode [0xCB, 0xD1], decode [0xCB, 0xD2], decode [0xCB, 0xD3], decode [0xCB, 0xD4],
     decode [0xCB, 0xD5], decode [0xCB, 0xD6], decode [0xCB, 0xD7], decode [0xCB, 0xD8], decode [0xCB, 0xD9],
     decode [0xCB, 0xDA], decode [0xCB, 0xDB], decode [0xCB, 0xDC], decode [0xCB, 0xDD], decode [0xCB, 0xDE],
     decode [0xCB, 0xDF]] =
    [.ok (.set_2_b, []), .ok (.set_2_c, []), .ok (.set_2_d, []), .ok (.set_2_e, []), .ok (.set_2_h, []), .ok
     (.set_2_l, []), .ok (.set_2_mhl, []), .ok (.set_2_a, []), .ok (.set_3_b, []), .ok (.set_3_c, []), .ok
     (.set_3_d, []), .ok (.set_3_e, []), .ok (.set_3_h, []), .ok (.set_3_l, []), .ok (.set_3_mhl, []), .ok
     (.set_3_a, [])] := rfl

theorem test_decode_cb_e :
    [decode [0xCB, 0xE0], decode [0xCB, 0xE1], decode [0xCB, 0xE2], decode [0xCB, 0xE3], decode [0xCB, 0xE4],
     decode [0xCB, 0xE5], decode [0xCB, 0xE6], decode [0xCB, 0xE7], decode [0xCB, 0xE8], decode [0xCB, 0xE9],
     decode [0xCB, 0xEA], decode [0xCB, 0xEB], decode [0xCB, 0xEC], decode [0xCB, 0xED], decode [0xCB, 0xEE],
     decode [0xCB, 0xEF]] =
    [.ok (.set_4_b, []), .ok (.set_4_c, []), .ok (.set_4_d, []), .ok (.set_4_e, []), .ok (.set_4_h, []), .ok
     (.set_4_l, []), .ok (.set_4_mhl, []), .ok (.set_4_a, []), .ok (.set_5_b, []), .ok (.set_5_c, []), .ok
     (.set_5_d, []), .ok (.set_5_e, []), .ok (.set_5_h, []), .ok (.set_5_l, []), .ok (.set_5_mhl, []), .ok
     (.set_5_a, [])] := rfl

theorem test_decode_cb_f :
    [decode [0xCB, 0xF0], decode [0xCB, 0xF1], decode [0xCB, 0xF2], decode [0xCB, 0xF3], decode [0xCB, 0xF4],
     decode [0xCB, 0xF5], decode [0xCB, 0xF6], decode [0xCB, 0xF7], decode [0xCB, 0xF8], decode [0xCB, 0xF9],
     decode [0xCB, 0xFA], decode [0xCB, 0xFB], decode [0xCB, 0xFC], decode [0xCB, 0xFD], decode [0xCB, 0xFE],
     decode [0xCB, 0xFF]] =
    [.ok (.set_6_b, []), .ok (.set_6_c, []), .ok (.set_6_d, []), .ok (.set_6_e, []), .ok (.set_6_h, []), .ok
     (.set_6_l, []), .ok (.set_6_mhl, []), .ok (.set_6_a, []), .ok (.set_7_b, []), .ok (.set_7_c, []), .ok
     (.set_7_d, []), .ok (.set_7_e, []), .ok (.set_7_h, []), .ok (.set_7_l, []), .ok (.set_7_mhl, []), .ok
     (.set_7_a, [])] := rfl


/-! ## One Step on small states -/

/-- The state at the head of section 2 of 95_test_vectors.md: registers and flags 0, `SP` 0xDFF0, `PC` 0xC000. -/
def bare : State :=
  { State.reset with cpu := { Cpu.reset with
      regs := ⟨0, 0, 0, 0, 0, 0, 0⟩, flags := ⟨false, false, false, false⟩, sp := 0xDFF0, pc := 0xC000 } }

/-- A state with another controller, and an image of `n` bytes 0x00. -/
def onCart (ctl : Controller) (n : Nat) (s : State) : State :=
  { s with bus := { s.bus with cart := { ctl := ctl, rom := [], romLen := n, xram := [] } } }

/-- A state on bank-switch variant 2. -/
def onVariant2 (s : State) : State := onCart (.bank2 { romBank := 1 }) 0x40000 s

/-- A byte written between Steps. -/
def poke (a : Word) (v : Byte) (s : State) : State := s.setBus (s.bus.written a v)

/-- Bytes written from `PC` up. -/
def code (bytes : List Byte) (s : State) : State := s.setBus (s.bus.placeAll s.cpu.pc bytes)

/-- Whether a test holds of the next state. -/
def after (o : Out) (p : State → Bool) : Bool :=
  match o with
  | .next t => p t
  | .fault _ => false
  | .refused _ => false

/-- Whether a test holds after one Step over the bytes at `PC`. -/
def run1 (bytes : List Byte) (s : State) (p : State → Bool) : Bool := after (step (code bytes s)) p

/-- 95_test_vectors.md section 2.1, rows 1, 3, 4, 6, 10, 14. -/
theorem test_load8_1 :
    ((run1 [0x41] (bare |>.setReg .c 0x5A) fun t => t.reg .b == 0x5A && t.reg .c == 0x5A && t.cpu.pc == 0xC001 && t.cpu.ticks == 4) &&
      (run1 [0x66] (bare |>.setPair .hl 0xC100 |> poke 0xC100 0x77) fun t => t.reg .h == 0x77 && t.reg .l == 0x00 && t.cpu.ticks == 8) &&
      (run1 [0x75] (bare |>.setPair .hl 0xC134) fun t => t.bus.peek 0xC134 == some 0x34 && t.cpu.ticks == 8) &&
      (run1 [0x36, 0x9C] (bare |>.setPair .hl 0xC200) fun t => t.bus.peek 0xC200 == some 0x9C && t.cpu.pc == 0xC002 && t.cpu.ticks == 12) &&
      (run1 [0x12] (bare |>.setPair .de 0xE000 |>.setReg .a 0x12) fun t => t.bus.peek 0xE000 == some 0x12 && t.bus.peek 0xC000 == some 0x12 && t.cpu.ticks == 8) &&
      (run1 [0xF0, 0xFF] (bare |> poke 0xFFFF 0x15) fun t => t.reg .a == 0x15 && t.cpu.ticks == 12)) = true := by decide

/-- 95_test_vectors.md section 2.1, rows 18, 20, 23, 24. -/
theorem test_load8_2 :
    ((run1 [0x22] (bare |>.setReg .a 0x01 |>.setPair .hl 0xC0FF) fun t => t.bus.peek 0xC0FF == some 0x01 && t.pair .hl == 0xC100 && t.cpu.ticks == 8) &&
      (run1 [0x2A] (bare |>.setPair .hl 0xFFFF |> poke 0xFFFF 0x1F) fun t => t.reg .a == 0x1F && t.pair .hl == 0x0000 && t.cpu.ticks == 8) &&
      (run1 [0x7E] (bare |>.setPair .hl 0xA000) fun t => t.reg .a == 0x00 && t.cpu.fault == some (.cartridgeAccess 0xA000) && t.cpu.pc == 0xC001 && t.cpu.ticks == 0) &&
      (run1 [0x77] (bare |>.setReg .a 0x55 |>.setPair .hl 0xA000) fun t => t.cpu.fault == none && t.cpu.pc == 0xC001 && t.cpu.ticks == 8)) = true := by decide

/-- 95_test_vectors.md section 2.2, rows 3, 4, 7, 9, 11, 12. -/
theorem test_load16 :
    ((run1 [0x08, 0x00, 0xC1] (bare |>.setPair .sp 0xBEEF) fun t => t.bus.peek 0xC100 == some 0xEF && t.bus.peek 0xC101 == some 0xBE && t.cpu.pc == 0xC003 && t.cpu.ticks == 20) &&
      (run1 [0x08, 0xFF, 0xFF] (bare |>.setPair .sp 0x1234) fun t => t.bus.peek 0xFFFF == some 0x34 && t.bus.peek 0x0000 == some 0x00 && t.cpu.fault == none && t.cpu.ticks == 20) &&
      (run1 [0xF5] (bare |>.setReg .a 0x9A |>.setFlags ⟨true, false, true, true⟩) fun t => t.pair .sp == 0xDFEE && t.bus.peek 0xDFEF == some 0x9A && t.bus.peek 0xDFEE == some 0xB0 && t.cpu.ticks == 16) &&
      (run1 [0xF1] (bare |>.setPair .sp 0xD000 |> poke 0xD000 0xFF |> poke 0xD001 0x12) fun t => t.reg .a == 0x12 && loByte t.af == 0xF0 && t.pair .sp == 0xD002 && t.cpu.flags == ⟨true, true, true, true⟩ && t.cpu.ticks == 12) &&
      (run1 [0xE5] (bare |>.setPair .sp 0x0001 |>.setPair .hl 0xABCD) fun t => t.pair .sp == 0xFFFF && t.bus.peek 0x0000 == some 0x00 && t.bus.peek 0xFFFF == some 0xCD && t.cpu.fault == none && t.cpu.ticks == 16) &&
      (run1 [0xC1] (bare |>.setPair .sp 0xFFFF |> poke 0xFFFF 0x21) fun t => t.pair .bc == 0x0021 && t.pair .sp == 0x0001 && t.cpu.ticks == 12)) = true := by decide

/-- 95_test_vectors.md section 2.4, rows 2, 9, 12, 15, 20, 24. -/
theorem test_alu8_1 :
    ((run1 [0x80] (bare |>.setReg .a 0xFF |>.setReg .b 0x01) fun t => t.reg .a == 0x00 && t.cpu.flags == ⟨true, false, true, true⟩ && t.cpu.ticks == 4) &&
      (run1 [0x88] (bare |>.setReg .a 0xFF |>.setReg .b 0x00 |>.setFlags ⟨false, false, false, true⟩) fun t => t.reg .a == 0x00 && t.cpu.flags == ⟨true, false, true, true⟩ && t.cpu.ticks == 4) &&
      (run1 [0xCE, 0xFF] (bare |>.setReg .a 0x00 |>.setFlags ⟨false, false, false, true⟩) fun t => t.reg .a == 0x00 && t.cpu.flags == ⟨true, false, true, true⟩ && t.cpu.ticks == 8) &&
      (run1 [0x90] (bare |>.setReg .a 0x00 |>.setReg .b 0x01) fun t => t.reg .a == 0xFF && t.cpu.flags == ⟨false, true, true, true⟩ && t.cpu.ticks == 4) &&
      (run1 [0x98] (bare |>.setReg .a 0x00 |>.setReg .b 0x00 |>.setFlags ⟨false, false, false, true⟩) fun t => t.reg .a == 0xFF && t.cpu.flags == ⟨false, true, true, true⟩ && t.cpu.ticks == 4) &&
      (run1 [0xA0] (bare |>.setReg .a 0x5A |>.setReg .b 0x3F |>.setFlags ⟨false, true, false, true⟩) fun t => t.reg .a == 0x1A && t.cpu.flags == ⟨false, false, true, false⟩ && t.cpu.ticks == 4)) = true := by decide

/-- 95_test_vectors.md section 2.4, rows 27, 30, 33, 36, 38, 42. -/
theorem test_alu8_2 :
    ((run1 [0xAF] (bare |>.setReg .a 0x77 |>.setFlags ⟨true, true, true, true⟩) fun t => t.reg .a == 0x00 && t.cpu.flags == ⟨true, false, false, false⟩ && t.cpu.ticks == 4) &&
      (run1 [0xB6] (bare |>.setReg .a 0x5A |>.setPair .hl 0xC100 |> poke 0xC100 0x0F |>.setFlags ⟨false, false, false, true⟩) fun t => t.reg .a == 0x5F && t.cpu.flags == ⟨false, false, false, false⟩ && t.cpu.ticks == 8) &&
      (run1 [0xB8] (bare |>.setReg .a 0x3C |>.setReg .b 0x40) fun t => t.reg .a == 0x3C && t.cpu.flags == ⟨false, true, false, true⟩ && t.cpu.ticks == 4) &&
      (run1 [0x04] (bare |>.setReg .b 0xFF |>.setFlags ⟨false, false, false, true⟩) fun t => t.reg .b == 0x00 && t.cpu.flags == ⟨true, false, true, true⟩ && t.cpu.ticks == 4) &&
      (run1 [0x34] (bare |>.setPair .hl 0xC100 |> poke 0xC100 0x4F) fun t => t.bus.peek 0xC100 == some 0x50 && t.cpu.flags == ⟨false, false, true, false⟩ && t.cpu.ticks == 12) &&
      (run1 [0x35] (bare |>.setPair .hl 0xC100 |> poke 0xC100 0x80 |>.setFlags ⟨false, false, false, true⟩) fun t => t.bus.peek 0xC100 == some 0x7F && t.cpu.flags == ⟨false, true, true, true⟩ && t.cpu.ticks == 12)) = true := by decide

/-- 95_test_vectors.md section 2.4, rows 43, 44, 46, 48, 49. -/
theorem test_alu8_3 :
    ((run1 [0x2F] (bare |>.setReg .a 0x35 |>.setFlags ⟨true, false, false, true⟩) fun t => t.reg .a == 0xCA && t.cpu.flags == ⟨true, true, true, true⟩ && t.cpu.ticks == 4) &&
      (run1 [0x37] (bare |>.setReg .a 0x35 |>.setFlags ⟨true, true, true, false⟩) fun t => t.reg .a == 0x35 && t.cpu.flags == ⟨true, false, false, true⟩ && t.cpu.ticks == 4) &&
      (run1 [0x3F] (bare |>.setReg .a 0x35 |>.setFlags ⟨false, false, false, false⟩) fun t => t.reg .a == 0x35 && t.cpu.flags == ⟨false, false, false, true⟩ && t.cpu.ticks == 4) &&
      (run1 [0x27] (bare |>.setReg .a 0x9A) fun t => t.reg .a == 0x00 && t.cpu.flags == ⟨true, false, false, true⟩ && t.cpu.ticks == 4) &&
      (run1 [0x27] (bare |>.setReg .a 0x00 |>.setFlags ⟨false, true, true, true⟩) fun t => t.reg .a == 0x9A && t.cpu.flags == ⟨false, true, false, true⟩ && t.cpu.ticks == 4)) = true := by decide

/-- 95_test_vectors.md section 2.5, rows 1, 3, 9, 12, 15, 16. -/
theorem test_alu16 :
    ((run1 [0x09] (bare |>.setPair .hl 0x0FFF |>.setPair .bc 0x0001 |>.setFlags ⟨true, false, false, false⟩) fun t => t.pair .hl == 0x1000 && t.cpu.flags == ⟨true, false, true, false⟩ && t.cpu.ticks == 8) &&
      (run1 [0x19] (bare |>.setPair .hl 0x8000 |>.setPair .de 0x8000 |>.setFlags ⟨true, true, false, false⟩) fun t => t.pair .hl == 0x0000 && t.cpu.flags == ⟨true, false, false, true⟩ && t.cpu.ticks == 8) &&
      (run1 [0x2B] (bare |>.setPair .hl 0x0100 |>.setFlags ⟨true, true, true, true⟩) fun t => t.pair .hl == 0x00FF && t.cpu.flags == ⟨true, true, true, true⟩ && t.cpu.ticks == 8) &&
      (run1 [0xE8, 0xFF] (bare |>.setPair .sp 0x0000) fun t => t.pair .sp == 0xFFFF && t.cpu.flags == ⟨false, false, false, false⟩ && t.cpu.ticks == 16) &&
      (run1 [0xE8, 0x7F] (bare |>.setPair .sp 0xFFFF) fun t => t.pair .sp == 0x007E && t.cpu.flags == ⟨false, false, true, true⟩ && t.cpu.ticks == 16) &&
      (run1 [0xF8, 0x02] (bare |>.setPair .sp 0xFFFE |>.setFlags ⟨true, true, true, true⟩) fun t => t.pair .hl == 0x0000 && t.pair .sp == 0xFFFE && t.cpu.pc == 0xC002 && t.cpu.flags == ⟨false, false, true, true⟩ && t.cpu.ticks == 12)) = true := by decide

/-- 95_test_vectors.md section 2.6, rows 1, 3, 7, 12, 16, 20. -/
theorem test_rotate_1 :
    ((run1 [0x07] (bare |>.setReg .a 0x80 |>.setFlags ⟨true, true, false, false⟩) fun t => t.reg .a == 0x01 && t.cpu.flags == ⟨false, false, false, true⟩ && t.cpu.ticks == 4) &&
      (run1 [0x07] (bare |>.setReg .a 0x00 |>.setFlags ⟨true, true, false, true⟩) fun t => t.reg .a == 0x00 && t.cpu.flags == ⟨false, false, false, false⟩ && t.cpu.ticks == 4) &&
      (run1 [0x17] (bare |>.setReg .a 0x80 |>.setFlags ⟨true, true, false, false⟩) fun t => t.reg .a == 0x00 && t.cpu.flags == ⟨false, false, false, true⟩ && t.cpu.ticks == 4) &&
      (run1 [0x1F] (bare |>.setReg .a 0x00 |>.setFlags ⟨true, true, false, true⟩) fun t => t.reg .a == 0x80 && t.cpu.flags == ⟨false, false, false, false⟩ && t.cpu.ticks == 4) &&
      (run1 [0xCB, 0x00] (bare |>.setReg .b 0xA5 |>.setFlags ⟨false, false, false, true⟩) fun t => t.reg .b == 0x4B && t.cpu.flags == ⟨false, false, false, true⟩ && t.cpu.ticks == 8) &&
      (run1 [0xCB, 0x08] (bare |>.setReg .b 0xA5 |>.setFlags ⟨false, false, false, true⟩) fun t => t.reg .b == 0xD2 && t.cpu.flags == ⟨false, false, false, true⟩ && t.cpu.ticks == 8)) = true := by decide

/-- 95_test_vectors.md section 2.6, rows 24, 28, 32, 36, 40, 44. -/
theorem test_rotate_2 :
    ((run1 [0xCB, 0x10] (bare |>.setReg .b 0xA5 |>.setFlags ⟨false, false, false, true⟩) fun t => t.reg .b == 0x4B && t.cpu.flags == ⟨false, false, false, true⟩ && t.cpu.ticks == 8) &&
      (run1 [0xCB, 0x18] (bare |>.setReg .b 0xA5 |>.setFlags ⟨false, false, false, true⟩) fun t => t.reg .b == 0xD2 && t.cpu.flags == ⟨false, false, false, true⟩ && t.cpu.ticks == 8) &&
      (run1 [0xCB, 0x20] (bare |>.setReg .b 0xA5 |>.setFlags ⟨false, false, false, true⟩) fun t => t.reg .b == 0x4A && t.cpu.flags == ⟨false, false, false, true⟩ && t.cpu.ticks == 8) &&
      (run1 [0xCB, 0x28] (bare |>.setReg .b 0xA5 |>.setFlags ⟨false, false, false, true⟩) fun t => t.reg .b == 0xD2 && t.cpu.flags == ⟨false, false, false, true⟩ && t.cpu.ticks == 8) &&
      (run1 [0xCB, 0x30] (bare |>.setReg .b 0xA5 |>.setFlags ⟨false, false, false, true⟩) fun t => t.reg .b == 0x5A && t.cpu.flags == ⟨false, false, false, false⟩ && t.cpu.ticks == 8) &&
      (run1 [0xCB, 0x38] (bare |>.setReg .b 0xA5 |>.setFlags ⟨false, false, false, true⟩) fun t => t.reg .b == 0x52 && t.cpu.flags == ⟨false, false, false, true⟩ && t.cpu.ticks == 8)) = true := by decide

/-- 95_test_vectors.md section 2.6, rows 45, 46. -/
theorem test_rotate_3 :
    ((run1 [0xCB, 0x06] (bare |>.setPair .hl 0xC100 |> poke 0xC100 0x81) fun t => t.bus.peek 0xC100 == some 0x03 && t.cpu.pc == 0xC002 && t.cpu.flags == ⟨false, false, false, true⟩ && t.cpu.ticks == 16) &&
      (run1 [0xCB, 0x36] (bare |>.setPair .hl 0xC100 |> poke 0xC100 0xF1 |>.setFlags ⟨false, false, false, true⟩) fun t => t.bus.peek 0xC100 == some 0x1F && t.cpu.flags == ⟨false, false, false, false⟩ && t.cpu.ticks == 16)) = true := by decide

/-- 95_test_vectors.md section 2.7, rows 2, 5, 9, 11, 12. -/
theorem test_bit :
    ((run1 [0xCB, 0x40] (bare |>.setReg .b 0xFE |>.setFlags ⟨false, true, false, false⟩) fun t => t.reg .b == 0xFE && t.cpu.flags == ⟨true, false, true, false⟩ && t.cpu.ticks == 8) &&
      (run1 [0xCB, 0x5E] (bare |>.setPair .hl 0xC100 |> poke 0xC100 0x08) fun t => t.bus.peek 0xC100 == some 0x08 && t.cpu.pc == 0xC002 && t.cpu.flags == ⟨false, false, true, false⟩ && t.cpu.ticks == 12) &&
      (run1 [0xCB, 0x9E] (bare |>.setPair .hl 0xC100 |> poke 0xC100 0xFF) fun t => t.bus.peek 0xC100 == some 0xF7 && t.cpu.flags == ⟨false, false, false, false⟩ && t.cpu.ticks == 16) &&
      (run1 [0xCB, 0xC0] (bare |>.setReg .b 0x00 |>.setFlags ⟨true, true, true, true⟩) fun t => t.reg .b == 0x01 && t.cpu.flags == ⟨true, true, true, true⟩ && t.cpu.ticks == 8) &&
      (run1 [0xCB, 0xFE] (bare |>.setPair .hl 0xC100 |> poke 0xC100 0x01) fun t => t.bus.peek 0xC100 == some 0x81 && t.cpu.pc == 0xC002 && t.cpu.flags == ⟨false, false, false, false⟩ && t.cpu.ticks == 16)) = true := by decide

/-- 95_test_vectors.md section 2.8, rows 3, 4, 13, 18, 21, 25. -/
theorem test_control_1 :
    ((run1 [0xC2, 0x00, 0xD0] (bare |>.setFlags ⟨true, false, false, false⟩) fun t => t.cpu.pc == 0xC003 && t.cpu.ticks == 12) &&
      (run1 [0xCA, 0x00, 0xD0] (bare |>.setFlags ⟨true, false, false, false⟩) fun t => t.cpu.pc == 0xD000 && t.cpu.ticks == 16) &&
      (run1 [0x20, 0xFD] (bare |>.setFlags ⟨false, false, false, false⟩) fun t => t.cpu.pc == 0xBFFF && t.cpu.ticks == 12) &&
      (run1 [0x18, 0x02] (bare.setPc 0xFFFD) fun t => t.cpu.pc == 0x0001 && t.cpu.ticks == 12) &&
      (run1 [0xCC, 0x00, 0xD0] (bare |>.setFlags ⟨true, false, false, false⟩) fun t => t.cpu.pc == 0xD000 && t.pair .sp == 0xDFEE && t.bus.peek 0xDFEF == some 0xC0 && t.bus.peek 0xDFEE == some 0x03 && t.cpu.ticks == 24) &&
      (run1 [0xC0] (bare |>.setPair .sp 0xD000 |> poke 0xD000 0x34 |> poke 0xD001 0x12 |>.setFlags ⟨true, false, false, false⟩) fun t => t.cpu.pc == 0xC001 && t.pair .sp == 0xD000 && t.cpu.ticks == 8)) = true := by decide

/-- 95_test_vectors.md section 2.8, rows 26, 28, 35, 37. -/
theorem test_control_2 :
    ((run1 [0xC0] (bare |>.setPair .sp 0xD000 |> poke 0xD000 0x34 |> poke 0xD001 0x12 |>.setFlags ⟨false, false, false, false⟩) fun t => t.cpu.pc == 0x1234 && t.pair .sp == 0xD002 && t.cpu.ticks == 20) &&
      (run1 [0xD9] (bare |>.setPair .sp 0xD000 |> poke 0xD000 0x34 |> poke 0xD001 0x12) fun t => t.cpu.pc == 0x1234 && t.pair .sp == 0xD002 && t.cpu.ime == true && t.cpu.ticks == 16) &&
      (run1 [0xF7] bare fun t => t.cpu.pc == 0x0030 && t.pair .sp == 0xDFEE && t.cpu.ticks == 16) &&
      (run1 [0xCD, 0x03, 0xC0] (bare |>.setPair .sp 0xC002) fun t => t.cpu.pc == 0xC003 && t.pair .sp == 0xC000 && t.bus.peek 0xC001 == some 0xC0 && t.bus.peek 0xC000 == some 0x03 && t.cpu.ticks == 24)) = true := by decide

/-- 95_test_vectors.md section 2.9, rows 2, 3, 5, 6, 8, 11. -/
theorem test_system_1 :
    ((run1 [0x76] (bare |>.setIme true) fun t => t.cpu.pc == 0xC001 && t.cpu.halted == true && t.cpu.skipInc == false && t.cpu.ime == true && t.cpu.ticks == 4) &&
      (run1 [0x76] (bare |>.setIme false) fun t => t.cpu.pc == 0xC001 && t.cpu.halted == true && t.cpu.skipInc == true && t.cpu.ime == false && t.cpu.ticks == 4) &&
      (run1 [0x76] (bare |>.setIme false |> poke 0xFFFF 0x04 |> poke 0xFF0F 0x01) fun t => t.cpu.pc == 0xC001 && t.cpu.halted == true && t.cpu.skipInc == true && t.cpu.ime == false && t.cpu.ticks == 4) &&
      (run1 [0x76] (bare |>.setIme true |> poke 0xFFFF 0x04 |> poke 0xFF0F 0x04) fun t => t.cpu.pc == 0x0050 && t.cpu.halted == false && t.cpu.skipInc == false && t.cpu.ime == false && t.bus.io.ifl == 0x00 && t.pair .sp == 0xDFEE && t.cpu.ticks == 20) &&
      (run1 [0x10, 0x55] bare fun t => t.cpu.pc == 0xC002 && t.cpu.stopped == true && t.cpu.ticks == 4) &&
      (run1 [0xFB] (bare |>.setIme false |> poke 0xFFFF 0x01 |> poke 0xFF0F 0x01) fun t => t.cpu.ime == true && t.cpu.pc == 0xC001 && t.bus.io.ifl == 0x01 && t.cpu.ticks == 4)) = true := by decide

/-- 95_test_vectors.md section 2.9, rows 14. -/
theorem test_system_2 :
    ((run1 [0xDD] bare fun t => t.cpu.fault == some (.unknownOpcode 0xDD) && t.cpu.pc == 0xC001 && t.pair .sp == 0xDFF0 && t.cpu.ticks == 0)) = true := by decide

/-- 96_test_vectors_devices.md section 2.18, rows 1, 3, 5, 7, 11, 12. -/
theorem test_fatal_1 :
    ((run1 [0xC5] ((onVariant2 bare) |>.setPair .sp 0xA201 |>.setPair .bc 0x1234) fun t => t.pair .sp == 0xA200 && t.cpu.pc == 0xC001 && t.cpu.fault == some (.cartridgeAccess 0xA200) && t.cpu.ticks == 0) &&
      (run1 [0x08, 0xFF, 0xA1] ((onVariant2 bare) |>.setPair .sp 0x12AB) fun t => t.pair .sp == 0x12AB && t.cpu.pc == 0xC003 && t.cpu.fault == some (.cartridgeAccess 0xA200) && t.cpu.ticks == 0) &&
      (run1 [0x22] ((onVariant2 bare) |>.setPair .hl 0xA200 |>.setReg .a 0x5A) fun t => t.pair .hl == 0xA200 && t.cpu.pc == 0xC001 && t.cpu.fault == some (.cartridgeAccess 0xA200) && t.cpu.ticks == 0) &&
      (run1 [0xC1] (bare |>.setPair .sp 0x9FFF |>.setPair .bc 0x1111 |> poke 0x9FFF 0x34) fun t => t.pair .bc == 0x1111 && t.pair .sp == 0xA000 && t.cpu.pc == 0xC001 && t.cpu.fault == some (.cartridgeAccess 0xA000) && t.cpu.ticks == 0) &&
      (run1 [0x34] (bare |>.setPair .hl 0xA123) fun t => t.pair .hl == 0xA123 && loByte t.af == 0x00 && t.cpu.pc == 0xC001 && t.cpu.fault == some (.cartridgeAccess 0xA123) && t.cpu.ticks == 0) &&
      (run1 [0xCD, 0x34, 0x12] ((onVariant2 bare) |>.setPair .sp 0xA201) fun t => t.pair .sp == 0xA200 && t.cpu.pc == 0xC003 && t.cpu.fault == some (.cartridgeAccess 0xA200) && t.cpu.ticks == 0)) = true := by decide

/-- 96_test_vectors_devices.md section 2.18, rows 13. -/
theorem test_fatal_2 :
    ((run1 [0xCD, 0x34, 0x12] ((onVariant2 bare) |>.setPair .sp 0xA200) fun t => t.pair .sp == 0xA1FE && t.cpu.pc == 0x1234 && t.bus.peek 0xA1FF == some 0x00 && t.cpu.fault == none && t.cpu.ticks == 24)) = true := by decide

/-! ## Sequences, interrupts, input -/

/-- 95_test_vectors.md section 2.10, sequence A, Steps 4 and 5, and sequence C, Step 2. -/
theorem test_quirk :
    (run1 [0x3C] (poke 0xFFFF 0x01 (poke 0xFF0F 0x01 ((bare.setHalted true).setSkipInc true))) fun t =>
      t.cpu.pc == 0xC000 && t.reg .a == 1 && !t.cpu.halted && !t.cpu.skipInc && t.bus.io.ifl == 1 &&
        after (step t) fun u => u.cpu.pc == 0xC001 && u.reg .a == 2) = true ∧
    (run1 [0x3E, 0x12] (bare.setSkipInc true) fun t => t.cpu.pc == 0xC001 && t.reg .a == 0x3E) = true := by decide

/-- 95_test_vectors.md section 2.10, sequences D and E: an idle Step, a dispatch out of HALT, a wake from STOP. -/
theorem test_waiting :
    (run1 [] ((bare.setHalted true).setIme true) fun t =>
      t.cpu.pc == 0xC000 && t.cpu.ticks == 4 && t.cpu.halted &&
        after (step (poke 0xFF0F 0x04 (poke 0xFFFF 0x04 t))) fun u =>
          u.cpu.pc == 0x0050 && u.cpu.ticks == 24 && !u.cpu.halted && !u.cpu.ime && u.bus.io.ifl == 0) = true ∧
    (setInput .a true (bare.setStopped true)).cpu.stopped = false ∧
    (setInput .a true (bare.setStopped true)).bus.io.ifl = 0x10 := by decide

/-- 95_test_vectors.md section 2.11, rows 1, 6 and 8, and the stack that a dispatch leaves. -/
theorem test_interrupt :
    (run1 [0x3C] (poke 0xFFFF 0x1F (poke 0xFF0F 0x1F ((bare.setPc 0xC123).setIme true))) fun t =>
      t.cpu.pc == 0x0040 && t.cpu.sp == 0xDFEE && !t.cpu.ime && t.bus.io.ifl == 0x1E && t.cpu.ticks == 20 &&
        t.bus.peek 0xDFEF == some 0xC1 && t.bus.peek 0xDFEE == some 0x23) = true ∧
    (run1 [0x3C] (poke 0xFFFF 0x14 (poke 0xFF0F 0x15 ((bare.setPc 0xC123).setIme true))) fun t =>
      t.cpu.pc == 0x0050 && t.bus.io.ifl == 0x11) = true ∧
    (run1 [0x3C] (poke 0xFFFF 0x1F (poke 0xFF0F 0x1F (bare.setPc 0xC123))) fun t =>
      t.cpu.pc == 0xC124 && t.bus.io.ifl == 0x1F && t.reg .a == 1) = true := by decide

/-- 96_test_vectors_devices.md section 2.18: row 9, its second Step, and a dispatch whose push is refused. -/
theorem test_refused :
    (run1 [] (bare.setPc 0xA000) fun t =>
      t.cpu.pc == 0xA000 && t.cpu.fault == some (.cartridgeAccess 0xA000) && t.cpu.ticks == 0) = true ∧
    (run1 [] (poke 0xFFFF 0x01 (poke 0xFF0F 0x01 (((onVariant2 bare).setSp 0xA201).setIme true))) fun t =>
      t.bus.io.ifl == 0 && !t.cpu.ime && t.cpu.sp == 0xA200 && t.cpu.pc == 0xC000 &&
        t.cpu.fault == some (.cartridgeAccess 0xA200) && t.cpu.ticks == 0) = true := by decide

/-- 97_test_programs.md, end states' first instruction: the host's placing of `LD A,0x42` after reset. -/
theorem test_placed :
    (after (step (State.reset.withFetchWord 16 0x423E)) fun t =>
      t.reg .a == 0x42 && t.cpu.pc == 0x0102 && t.cpu.ticks == 8) = true ∧
    decodeTableWord 16 0x423E = some (.ld_a_n 0x42) ∧ decodeTableWord 8 0xFA = some (.ld_a_mnn 0x0000) := by decide

/-! ## OPEN parameters and the reset record (00_scope.md R7) -/

/-- A machine with other parameters: NOP at 7 ticks, an idle Step at 2, no halt beside the quirk, another `SHADE[0]`, one
call for the length field 0 of channel 2. -/
def other : State := { bare with bus := { bare.bus with cfg := { Config.Params.default with
  ticks := [(0x00, (7, 7))], haltIdle := 2, haltWithIme0Halts := false, shade0 := 0xFF123456, lens := [((2, 0), 1)] } } }

theorem test_parameters :
    (run1 [0x00] other fun t => t.cpu.ticks == 7) = true ∧ (run1 [0x04] other fun t => t.cpu.ticks == 4) = true ∧
    (run1 [] (other.setHalted true) fun t => t.cpu.ticks == 2) = true ∧
    (run1 [0x76] other fun t => !t.cpu.halted && t.cpu.skipInc) = true ∧
    (poke 0xFF47 0x01 other).bus.pal.bg = ⟨0xFFAAAAAA, 0xFF123456, 0xFF123456, 0xFF123456⟩ ∧
    (poke 0xFF16 0x00 other).bus.snd.ch2.voice.len = 1 ∧ (poke 0xFF16 0x00 bare).bus.snd.ch2.voice.len = 16 ∧
    (poke 0xFF1B 0x00 bare).bus.snd.ch3.voice.len = 64 := by decide

/-- 10_state.md R47: what the reset registers decode to, and the running fields. -/
theorem test_reset_sound : let s := State.reset.bus.snd
    (s.ch1.duty, s.ch1.env, s.ch1.freq, s.ch1.amp) = (2, ⟨15, false, 3, 0⟩, 0x700, 0) ∧
    (s.ch2.duty, s.ch2.env, s.ch2.freq, s.ch2.amp) = (0, ⟨0, false, 0, 0⟩, 0x700, 0) ∧
    (s.ch3.level, s.ch3.on, s.ch3.freq, s.ch3.amp, s.ch3.wave) = (0, false, 0x700, 0, []) ∧
    (s.ch4.shift, s.ch4.divisor, s.ch4.tableSelect, s.ch4.amp) = (0, 0, false, 0) ∧ s.sweep = ⟨0, false, 0, 0⟩ ∧
    s.ch1.voice = ⟨0, 0, false, true, true⟩ ∧ s.ch2.voice = ⟨0, 0, false, true, true⟩ ∧
    s.ch3.voice = ⟨0, 0, false, true, false⟩ ∧ s.ch4.voice = ⟨0, 0, false, true, false⟩ ∧
    (s.volLeft, s.volRight) = (7, 7) :=
  ⟨rfl, rfl, rfl, rfl, rfl, rfl, rfl, rfl, rfl, rfl⟩

/-- A reset record with one byte of wave pattern memory: channel 3 plays its nibbles, the high one first (R38). -/
theorem test_reset_wave :
    (State.atReset .default { Reset.default with sregs := { SoundRegs.reset with wave := [(3, 0xA5), (4, 0x07)] } }
      .blank).bus.snd.ch3.wave = [(6, 0xA), (7, 0x5), (9, 0x7)] := by decide

/-! ## Devices (96_test_vectors_devices.md) -/

/-- What an address reads as between Steps. -/
def look (a : Word) (s : State) : Byte := s.bus.value a

/-- Section 2.14, rows 8, 9, 15, 16, 17, 20, 21, 23 and 25. -/
theorem test_dispatcher :
    (look 0xE000 (poke 0xC000 0x56 bare) == 0x56 && look 0xDDFF (poke 0xFDFF 0x78 bare) == 0x78 &&
      look 0xFF0F (poke 0xFF0F 0xFF bare) == 0xFF && look 0xFF0F (poke 0xFF0F 0x00 bare) == 0xE0 &&
      look 0xFF07 (poke 0xFF07 0xFF bare) == 0xFF && look 0xFF41 (poke 0xFF41 0xFF bare) == 0xFC &&
      look 0xFF41 (poke 0xFF45 0x05 (poke 0xFF41 0xFF bare)) == 0xF8 && look 0xFF44 (poke 0xFF44 0x77 bare) == 0x00 &&
      look 0xFF40 bare == 0x91 && look 0xFF47 bare == 0xFC) = true := by decide

/-- Section 2.14, joypad rows 1, 4, 5, 6 and 7. -/
theorem test_joypad :
    let s := setInput .a true (setInput .right true bare)
    (look 0xFF00 bare == 0xCF && look 0xFF00 (poke 0xFF00 0x20 s) == 0xEE && look 0xFF00 (poke 0xFF00 0x10 s) == 0xDE &&
      look 0xFF00 (poke 0xFF00 0x10 (setInput .start true s)) == 0xD6 &&
      look 0xFF00 (poke 0xFF00 0x00 (setInput .start true s)) == 0xC6) = true := by decide

/-- Section 2.14, OAM DMA: the first bytes of a copy through the mirror, and a copy whose first read is fatal. -/
theorem test_dma :
    (match Bus.dmaCopy 0xE1 6 0 (poke 0xC105 0x05 (poke 0xC100 0x77 bare)).bus with
      | .ok _ b => b.oam
      | .fatal _ _ => []) = [(0, 0x77), (5, 0x05)] ∧
    (run1 [0xE0, 0x46] (bare.setReg .a 0xA0) fun t =>
      t.cpu.fault == some (.cartridgeAccess 0xA000) && look 0xFF46 t == 0xA0) = true := by decide

/-- Section 2.15, variant 1, rows 3, 7 and 9, and RAM rows 2 and 4. -/
theorem test_variant1 :
    let s := onCart (.bank1 { low5 := 1, hi2 := 0, bankMode := false }) 0x200000 bare
    (poke 0x2000 0x20 s).bus.cart.ctl.romBankEff = 1 ∧ (poke 0x4000 0x01 s).bus.cart.ctl.romBankEff = 0x21 ∧
      (poke 0x2000 0x1F (poke 0x4000 0x03 s)).bus.cart.ctl.romBankEff = 0x7F ∧
      (poke 0xA000 0x22 (poke 0x4000 0x02 s)).bus.cart.xram = [(0x0000, 0x22)] ∧
      (poke 0xBFFF 0x44 (poke 0x6000 0x01 (poke 0x4000 0x02 s))).bus.cart.xram = [(0x5FFF, 0x44)] := by decide

/-- Section 2.15, variant 2, rows 3, 4 and 6; variant 3, rows 3, 6, 8 and 12. -/
theorem test_variant2_3 :
    let s := onVariant2 bare
    let t := onCart (.bank3 { romBank := 1, ramBank := 0, ramEnable := false, latchReg := 0xFF, rtc := ⟨0, 0, 0, 0, 0⟩ })
      0x200000 bare
    (poke 0x2100 0x13 s).bus.cart.ctl.romBankEff = 3 ∧ (poke 0x2100 0x00 s).bus.cart.ctl.romBankEff = 0 ∧
      look 0xA000 (poke 0xA000 0xAB s) = 0x0B ∧ look 0xA000 (poke 0xA000 0x55 (poke 0x0000 0x0A t)) = 0x55 ∧
      look 0xA000 (poke 0xA000 0x55 t) = 0xFF ∧ (poke 0x2000 0x80 t).bus.cart.ctl.romBankEff = 1 ∧
      look 0xA000 (poke 0x6000 0x01 (poke 0x4000 0x08 (poke 0x0000 0x0A t))) = 0x00 := by decide

/-- Section 2.16, divider and timer: the bookkeeping of line 8 with TAC = 0x05 and TMA = 0xF0. -/
theorem test_timer :
    let b := { bare.bus with io := { bare.bus.io with tac := 5, tma := 0xF0, tima := 0xE4, div := 0x0E }
                             drv := { carry := 0, divAcc := 64, timaAcc := 0 } }
    (b.timerAdvance 456).io.tima = 0xF0 ∧ (b.timerAdvance 456).drv.timaAcc = 8 ∧ (b.timerAdvance 456).io.ifl = 4 ∧
      (b.timerAdvance 456).io.div = 0x10 ∧ (b.timerAdvance 456).drv.divAcc = 8 := by decide

/-- Section 2.16, LCD-Status requests, at the starts of a visible line's phases and of a V-Blank line. -/
theorem test_lcd_status :
    let b := { bare.bus with io := { bare.bus.io with statEnable := 0b1001, lyc := 5 } }
    (b.startOamSearch 5).io.ifl = 2 ∧ (b.startOamSearch 4).io.ifl = 0 ∧ b.startHBlank.io.ifl = 2 ∧
      (b.startVBlankLine 144).io.ifl = 1 ∧ (b.startVBlankLine 145).io.ifl = 0 := by decide

/-- Section 2.17, length and restart of channel 2; the envelope step; the sweep steps; scaling and encoding. -/
theorem test_sound :
    let s := (poke 0xFF19 0xC7 (poke 0xFF17 0xF0 (poke 0xFF16 0x38 bare))).bus.snd
    s.ch2.voice.len = 2 ∧ s.ch2.amp = 15 ∧ s.ch2.freq = 0x700 ∧ s.ch2.voice.countLength.len = 1 ∧
      { initial := 3, dirUp := false, period := 2, count := 1 : Envelope }.step 3 =
        (2, { initial := 3, dirUp := false, period := 2, count := 0 }) ∧
      ({ period := 1, dirDown := false, shift := 1, count := 0 : Sweep }.step 0x600).1 = 0x600 ∧
      ({ period := 2, dirDown := true, shift := 2, count := 1 : Sweep }.step 0x400).1 = 0x300 ∧
      scaleSample 3 (-41) = -21 ∧ Config.pcmDefault [-300] = [0x80] := by decide

/-- Video RAM with the tile of section 2.12 as tile 1, at row 2, column 3 of the background map; BGP = 0xE4. -/
def picture : State :=
  poke 0xFF47 0xE4 (poke 0x9843 0x01
    (((bare.setPc 0x8010) |> code [0xFF, 0x00, 0x00, 0xFF, 0xFF, 0xFF, 0xF0, 0xCC, 0x80, 0x00, 0x01]).setPc 0xC000))

/-- Section 2.12, case 1, line 19, at x = 23, 24, 26, 28, 30; case 3, line 25, at x = 30 and 32. -/
theorem test_background :
    ([23, 24, 26, 28, 30].map fun x => (layerPixel (TileSource.direct picture.bus) picture.bus.io 19 x).shade) =
      [0, 3, 1, 2, 0] ∧
    (let s := poke 0xFF42 250 (poke 0xFF43 250 picture);
     [29, 30, 32].map fun x => (layerPixel (TileSource.direct s.bus) s.bus.io 25 x).shade) = [0, 3, 1] := by decide

/-- Section 2.13, priority bit, line 16, at x = 20 and 24, under both senses. -/
theorem test_sprite :
    let b := (((picture |> poke 0xFF40 0x93 |> poke 0xFF49 0x1B).setPc 0xFE00) |> code [0x20, 0x1C, 0x01, 0x90]).bus
    ([20, 24].map (pixelColour (TileSource.direct b) b .source 16)) = [bare.bus.cfg.shade 0, bare.bus.cfg.shade 2] ∧
      ([20, 24].map (pixelColour (TileSource.direct b) b .hardware 16)) = [bare.bus.cfg.shade 2, bare.bus.cfg.shade 1] := by decide

/-! ## Witnesses: states and operands that meet the hypotheses of the statements

`reads s a` and `refuses s a`: the byte access at `a` succeeds, is fatal, both for a read; `writes` and `rejects` for
a write of `v`. -/

/-- A read at `a` succeeds. -/
abbrev reads (s : State) (a : Word) : Prop := ∃ v b, s.bus.read a = .ok v b
/-- A read at `a` is fatal. -/
abbrev refuses (s : State) (a : Word) : Prop := ∃ x b, s.bus.read a = .fatal x b
/-- A write at `a` succeeds. -/
abbrev writes (s : State) (a : Word) (v : Byte) : Prop := ∃ b, s.bus.write a v = .ok () b
/-- A write at `a` is fatal. -/
abbrev rejects (s : State) (a : Word) (v : Byte) : Prop := ∃ x b, s.bus.write a v = .fatal x b
/-- A second write at `a'` succeeds after one at `a`. -/
abbrev writesTwice (s : State) (a : Word) (v : Byte) (a' : Word) (v' : Byte) : Prop :=
  ∃ b c, s.bus.write a v = .ok () b ∧ b.write a' v' = .ok () c
/-- A second write at `a'` is fatal after one at `a`. -/
abbrev rejectsSecond (s : State) (a : Word) (v : Byte) (a' : Word) (v' : Byte) : Prop :=
  ∃ x b c, s.bus.write a v = .ok () b ∧ b.write a' v' = .fatal x c
/-- A Step will fetch. -/
abbrev fetches (s : State) : Prop :=
  s.cpu.fault = none ∧ s.cpu.halted = false ∧ s.cpu.stopped = false ∧ (s.cpu.ime = false ∨ s.bus.pending = 0)
/-- The three pairs at one address. -/
def pointing (a : Word) (s : State) : State := ((s.setPair .bc a).setPair .de a).setPair .hl a
/-- A state whose `DMA` register holds `v`, with `HL` at it. -/
def atDma (v : Byte) : State :=
  { bare with bus := { bare.bus with io := { bare.bus.io with dma := v } } }.setPair .hl 0xFF46

theorem witness_DecodeEncode : (Instr.illegal 0xFD).wellFormed = true ∧ (Instr.ld_a_mnn 0xFFFF).wellFormed = true := by
  decide

theorem witness_EncodeDecode : decode [0xFD, 0x76] = .ok (.illegal 0xFD, [0x76]) ∧
    decode [0xFA, 0xFF, 0xFF] = .ok (.ld_a_mnn 0xFFFF, []) := ⟨rfl, rfl⟩

theorem witness_StepRunsDecoded : let s := code [0xFA, 0x34, 0x12] bare
    fetches s ∧ (Instr.ld_a_mnn 0x1234).wellFormed = true ∧ s.cpu.skipInc = false ∧
      (∀ (k : Nat) (h : k < (encode (.ld_a_mnn 0x1234)).length),
        s.bus.peek (s.cpu.pc + BitVec.ofNat 16 k) = some ((encode (.ld_a_mnn 0x1234))[k]) ∧
        s.bus.afterRead (s.cpu.pc + BitVec.ofNat 16 k) = s.bus) ∧
      ∃ t, fetchInstr s = .ok (.ld_a_mnn 0x1234) t :=
  ⟨by decide, by decide, by decide, fun k h => match k, h with
    | 0, _ => ⟨rfl, rfl⟩
    | 1, _ => ⟨rfl, rfl⟩
    | 2, _ => ⟨rfl, rfl⟩
    | n + 3, h => absurd (show n + 3 < 3 from h) (by omega), _, rfl⟩

theorem witness_HaltQuirkFetch :
    (∃ t, exec .halt bare = .next t) ∧ bare.cpu.ime = false ∧ bare.bus.pending = 0 ∧
    (∃ t, exec .halt (bare.setIme true) = .next t) ∧
    let armed (bytes : List Byte) : State := (code bytes bare).setSkipInc true
    let meets (s : State) (v : Byte) : Prop := fetches s ∧ s.cpu.skipInc = true ∧
      s.bus.peek s.cpu.pc = some v ∧ s.bus.afterRead s.cpu.pc = s.bus
    meets (armed [0x3C]) 0x3C ∧ decodeOp 0x3C = .op .inc_a ∧
    meets (armed [0x3E]) 0x3E ∧ decodeOp 0x3E = .n8 .ld_a_n ∧
    meets (armed [0xC3, 0x12]) 0xC3 ∧ decodeOp 0xC3 = .n16 .jp_nn ∧
      (armed [0xC3, 0x12]).bus.peek 0xC001 = some 0x12 ∧
      (armed [0xC3, 0x12]).bus.afterRead 0xC001 = (armed [0xC3, 0x12]).bus ∧
    meets (armed [0xCB]) 0xCB :=
  ⟨⟨_, rfl⟩, rfl, rfl, ⟨_, rfl⟩, by decide, rfl, by decide, rfl, by decide, rfl, by decide, by decide, by decide⟩

theorem witness_FaultIsFinal : (bare.raise (.unknownOpcode 0xD3)).cpu.fault = some (.unknownOpcode 0xD3) ∧
    (bare.raise (.cartridgeAccess 0xA000)).cpu.fault = some (.cartridgeAccess 0xA000) := ⟨rfl, rfl⟩

theorem witness_StepNeverStops :
    fetches (bare.setPc 0xA000) ∧ (bare.setPc 0xA000).bus.readable (bare.setPc 0xA000).cpu.pc = false := by decide

theorem witness_ImeAndHaltedWriters :
    let two : State := poke 0xFFFF 0x01 (poke 0xFF0F 0x01 bare)
    (∃ t, exec .di bare = .next t) ∧ (∃ t, exec .reti bare = .next t ∧ t.cpu.ime = true) ∧
    (∃ t, step (two.setIme true) = .next t ∧ (two.setIme true).bus.pending ≠ 0) ∧
    (∃ t, step (code [0xFB] bare) = .next t ∧ (code [0xFB] bare).cpu.ime = false ∧ t.cpu.ime = true) ∧
    (∃ t, step (bare.setHalted true) = .next t ∧ (bare.setHalted true).bus.pending = 0) ∧
    (∃ t, step (two.setHalted true) = .next t ∧ (two.setHalted true).bus.pending ≠ 0) ∧
    ∃ t, step (code [0x76] bare) = .next t ∧ (code [0x76] bare).cpu.halted = false ∧ t.cpu.halted = true :=
  ⟨⟨_, rfl⟩, ⟨_, rfl, by decide⟩, ⟨_, rfl, by decide⟩, ⟨_, rfl, by decide, by decide⟩, ⟨_, rfl, by decide⟩,
    ⟨_, rfl, by decide⟩, _, rfl, by decide, by decide⟩

theorem witness_IllegalOpcode : let s := code [0xDD] bare
    decodeOp 0xDD = .op (.illegal 0xDD) ∧ fetches s ∧ s.bus.peek s.cpu.pc = some 0xDD ∧
      s.bus.afterRead s.cpu.pc = s.bus := ⟨rfl, by decide, by decide, by decide⟩

/-- Both bits of the lowest source, and of the highest with no other. -/
theorem witness_InterruptPriority :
    let s (ie ifl : Byte) : State := poke 0xFFFF ie (poke 0xFF0F ifl (bare.setIme true))
    let both (s : State) (j : Fin 5) : Bool := s.bus.io.ie.getLsbD j.val && s.bus.io.ifl.getLsbD j.val
    (both (s 0x1F 0x1F) 0 = true ∧ ∀ j : Fin 5, j < 0 → both (s 0x1F 0x1F) j = false) ∧
    (both (s 0x1F 0x10) 4 = true ∧ ∀ j : Fin 5, j < 4 → both (s 0x1F 0x10) j = false) ∧
    (∃ t, step (s 0x1F 0x10) = .next t ∧ t.cpu.fault = none) ∧ (∀ j, both (s 0x0F 0x10) j = false) ∧
    bare.cpu.ime = false :=
  ⟨by decide, by decide, ⟨_, rfl, by decide⟩, by decide, rfl⟩

theorem witness_InterruptDispatch :
    let first (s : State) : Option (Fin 5) := firstSource (s.bus.io.ie.extractLsb' 0 5 &&& s.bus.io.ifl)
    let s (sp : Word) : State :=
      poke 0xFFFF 0x02 (poke 0xFF0F 0x02 (((onVariant2 bare).setSp sp).setIme true))
    let acked (s : State) : State := s.setBus (s.bus.acknowledge 1)
    first (s 0xDFF0) = some 1 ∧ (s 0xDFF0).cpu.fault = none ∧ (s 0xDFF0).cpu.ime = true ∧
      writesTwice (acked (s 0xDFF0)) 0xDFEF 0xC0 0xDFEE 0x00 ∧
      rejects (acked (s 0xA201)) 0xA200 0xC0 ∧ rejectsSecond (acked (s 0xC001)) 0xC000 0xC0 0xBFFF 0x00 :=
  ⟨rfl, rfl, rfl, ⟨_, _, rfl, rfl⟩, ⟨_, _, rfl⟩, _, _, _, rfl, rfl⟩

theorem witness_IdleAndWake :
    ((bare.setHalted true).cpu.halted = true ∧ (bare.setHalted true).bus.pending = 0) ∧
    ((bare.setStopped true).cpu.stopped = true ∧ (bare.setStopped true).cpu.halted = false ∧
      (bare.setStopped true).bus.pending = 0) ∧
    (poke 0xFFFF 0x01 (poke 0xFF0F 0x01 (bare.setHalted true))).bus.pending ≠ 0 := by decide

theorem witness_LoadFromMemory : reads (pointing 0xC000 bare) 0xC000 ∧ refuses (pointing 0xA000 bare) 0xA000 :=
  ⟨⟨_, _, rfl⟩, _, _, rfl⟩

/-- The last two: a store to `DMA` from a page that the cartridge refuses, which `LDH` can make. -/
theorem witness_StoreToMemory : writes (pointing 0xC000 bare) 0xC000 0x00 ∧
    rejects (pointing 0xA200 (onVariant2 bare)) 0xA200 0x00 ∧ writes bare 0xFF80 0x00 ∧
    rejects (bare.setReg .a 0xA0) 0xFF46 0xA0 :=
  ⟨⟨_, rfl⟩, ⟨_, _, rfl⟩, ⟨_, rfl⟩, _, _, rfl⟩

theorem witness_HlStep : reads (pointing 0xFFFF bare) 0xFFFF ∧ refuses (pointing 0xA000 bare) 0xA000 ∧
    writes (pointing 0xFFFF bare) 0xFFFF 0x00 ∧ rejects (pointing 0xA200 (onVariant2 bare)) 0xA200 0x00 :=
  ⟨⟨_, _, rfl⟩, ⟨_, _, rfl⟩, ⟨_, rfl⟩, _, _, rfl⟩

/-- The last, an address whose second byte alone is refused: 96_test_vectors_devices.md section 2.18, row 3. -/
theorem witness_WordLoads : writesTwice bare 0xFFFF 0xF0 0x0000 0xDF ∧ rejects (onVariant2 bare) 0xA200 0xF0 ∧
    rejectsSecond (onVariant2 bare) 0xA1FF 0xF0 0xA200 0xDF :=
  ⟨⟨_, _, rfl, rfl⟩, ⟨_, _, rfl⟩, _, _, _, rfl, rfl⟩

theorem witness_PushPair : writesTwice bare 0xDFEF 0x00 0xDFEE 0x00 ∧
    rejects ((onVariant2 bare).setSp 0xA201) 0xA200 0x00 ∧
    rejectsSecond ((onVariant2 bare).setSp 0xC001) 0xC000 0x00 0xBFFF 0x00 :=
  ⟨⟨_, _, rfl, rfl⟩, ⟨_, _, rfl⟩, _, _, _, rfl, rfl⟩

theorem witness_PopPair :
    (∃ l h b c, bare.bus.read 0xDFF0 = .ok l b ∧ b.read 0xDFF1 = .ok h c) ∧ refuses (bare.setSp 0xA000) 0xA000 ∧
    ∃ l x b c, (bare.setSp 0x9FFF).bus.read 0x9FFF = .ok l b ∧ b.read 0xA000 = .fatal x c :=
  ⟨⟨_, _, _, _, rfl, rfl⟩, ⟨_, _, rfl⟩, _, _, _, _, rfl, rfl⟩

theorem witness_AluForms : reads (pointing 0xC000 bare) 0xC000 ∧ refuses (pointing 0xA000 bare) 0xA000 :=
  ⟨⟨_, _, rfl⟩, _, _, rfl⟩

/-- The byte at `HL` read, changed and written back; refused as it is read; refused as it is written, which the
register `DMA` does where the new value is a page that the cartridge refuses. -/
abbrev modifies (f : Byte → Byte) (v : Byte) : Prop :=
  (∃ x b c, (pointing 0xC000 bare).bus.read 0xC000 = .ok x b ∧ b.write 0xC000 (f x) = .ok () c) ∧
  refuses (pointing 0xA000 bare) 0xA000 ∧
  ∃ x y b c, (atDma v).bus.read (atDma v).hl = .ok x b ∧ b.write (atDma v).hl (f x) = .fatal y c

theorem witness_IncDecByte : modifies (fun v => v + 1) 0x9F ∧ modifies (fun v => v - 1) 0xA1 :=
  ⟨⟨⟨_, _, _, rfl, rfl⟩, ⟨_, _, rfl⟩, _, _, _, _, rfl, rfl⟩, ⟨_, _, _, rfl, rfl⟩, ⟨_, _, rfl⟩, _, _, _, _, rfl, rfl⟩

theorem witness_RotateForms : modifies (fun v => (rot .swap v bare.cpu.flags).1) 0x0A ∧
    modifies (fun v => (rot .rlc v bare.cpu.flags).1) 0x50 :=
  ⟨⟨⟨_, _, _, rfl, rfl⟩, ⟨_, _, rfl⟩, _, _, _, _, rfl, rfl⟩, ⟨_, _, _, rfl, rfl⟩, ⟨_, _, rfl⟩, _, _, _, _, rfl, rfl⟩

theorem witness_RotateResult : (0 : Nat) < 8 ∧ (7 : Nat) < 8 := by decide

theorem witness_BitTest : reads (pointing 0xC000 bare) 0xC000 ∧ refuses (pointing 0xA000 bare) 0xA000 :=
  ⟨⟨_, _, rfl⟩, _, _, rfl⟩

theorem witness_SetResetBit : modifies (fun v => v ||| (1#8 <<< 7)) 0x20 ∧ modifies (fun v => v &&& ~~~(1#8 <<< 0)) 0xA1 :=
  ⟨⟨⟨_, _, _, rfl, rfl⟩, ⟨_, _, rfl⟩, _, _, _, _, rfl, rfl⟩, ⟨_, _, _, rfl, rfl⟩, ⟨_, _, rfl⟩, _, _, _, _, rfl, rfl⟩

theorem witness_Calls : condHolds .z bare.cpu.flags = false ∧ condHolds .nz bare.cpu.flags = true ∧
    writesTwice bare 0xDFEF 0xC0 0xDFEE 0x00 ∧ rejects ((onVariant2 bare).setSp 0xA201) 0xA200 0xC0 ∧
    rejectsSecond ((onVariant2 bare).setSp 0xC001) 0xC000 0xC0 0xBFFF 0x00 :=
  ⟨rfl, rfl, ⟨_, _, rfl, rfl⟩, ⟨_, _, rfl⟩, _, _, _, rfl, rfl⟩

theorem witness_Returns : condHolds .z bare.cpu.flags = false ∧ condHolds .nz bare.cpu.flags = true ∧
    (∃ l h b c, bare.bus.read 0xDFF0 = .ok l b ∧ b.read 0xDFF1 = .ok h c) ∧ refuses (bare.setSp 0xA000) 0xA000 ∧
    ∃ l x b c, (bare.setSp 0x9FFF).bus.read 0x9FFF = .ok l b ∧ b.read 0xA000 = .fatal x c :=
  ⟨rfl, rfl, ⟨_, _, _, _, rfl, rfl⟩, ⟨_, _, rfl⟩, _, _, _, _, rfl, rfl⟩

theorem witness_frames :
    (∃ t, exec .ld_a_mhl bare = .next t) ∧ (∃ t, exec .ld_mhl_a (pointing 0xC000 bare) = .next t) ∧
    (∃ t, exec .push_bc bare = .next t) ∧ bare.bus.storeReaches 0xC000 0xC001 = false ∧
    bare.bus.storeReaches 0xC000 0xE000 = true ∧ bare.bus.storeReaches 0xDFEF 0xFFFF = false ∧
    (bare.bus.written 0xDFEF 0x00).storeReaches 0xDFEE 0xFFFF = false :=
  ⟨⟨_, rfl⟩, ⟨_, rfl⟩, ⟨_, rfl⟩, by decide⟩

/-- The ends of the three ranges, of the mirror, and an address that a store does not reach. -/
theorem witness_PlainMemory :
    0x8000 ≤ (0x8000#16).toNat ∧ (0x9FFF#16).toNat < 0xA000 ∧ 0xC000 ≤ (0xC000#16).toNat ∧
    (0xFE9F#16).toNat < 0xFEA0 ∧ 0xFF80 ≤ (0xFF80#16).toNat ∧ 0xE000 ≤ (0xE000#16).toNat ∧ (0xFDFF#16).toNat ≤ 0xFDFF ∧
    bare.bus.storeReaches 0xFFFF 0xFFFE = false := by decide

theorem witness_UnmappedAddresses :
    0xFEA0 ≤ (0xFEA0#16).toNat ∧ (0xFEFF#16).toNat < 0xFF00 ∧ (0xFF03#16).toNat = 0xFF03 ∧
    (0xFF2F#16).toNat = 0xFF2F ∧ 0xFF4C ≤ (0xFF4C#16).toNat ∧ (0xFF7F#16).toNat < 0xFF80 := by decide

theorem witness_CartridgeWindows : (0x3FFF#16).toNat < 0x4000 ∧ (0x4000#16).toNat < 0x8000 ∧
    (0x7FFF#16).toNat < 0x8000 := by decide

/-- A variant 3 cartridge with a given state of its controller. -/
def onVariant3 (enable : Bool) (bank latch : Byte) : State :=
  onCart (.bank3 { romBank := 1, ramBank := bank, ramEnable := enable, latchReg := latch, rtc := ⟨0, 0, 0, 0, 0⟩ })
    0x200000 bare

/-- A variant 1 cartridge. -/
def onVariant1 : State := onCart (.bank1 { low5 := 1, hi2 := 0, bankMode := false }) 0x200000 bare

theorem witness_ControlRegisters : bare.bus.cart.ctl = .plain ∧ (∃ st, onVariant1.bus.cart.ctl = .bank1 st) ∧
    (∃ st, (onVariant2 bare).bus.cart.ctl = .bank2 st) ∧
    (∃ st, (onVariant3 true 0 0x00).bus.cart.ctl = .bank3 st ∧ st.latchReg = 0x00) ∧
    (∃ st, (onVariant3 true 0 0xFF).bus.cart.ctl = .bank3 st ∧ ¬(st.latchReg = 0x00 ∧ (0x01 : Byte) = 0x01)) ∧
    (0x1FFF#16).toNat < 0x2000 ∧ 0x2000 ≤ (0x3FFF#16).toNat ∧ 0x4000 ≤ (0x5FFF#16).toNat ∧ 0x6000 ≤ (0x7FFF#16).toNat :=
  ⟨rfl, ⟨_, rfl⟩, ⟨_, rfl⟩, ⟨_, rfl, rfl⟩, ⟨_, rfl, by decide⟩, by decide⟩

/-- The ends of the window, of variant 2's 512 bytes, and of the ranges of variant 3's bank register. -/
theorem witness_ExternalWindow : 0xA000 ≤ (0xA000#16).toNat ∧ (0xBFFF#16).toNat < 0xC000 ∧
    (0xA1FF#16).toNat - 0xA000 < 0x200 ∧ 0x200 ≤ (0xA200#16).toNat - 0xA000 ∧ bare.bus.cart.ctl = .plain ∧
    (∃ st, onVariant1.bus.cart.ctl = .bank1 st) ∧ (∃ st, (onVariant2 bare).bus.cart.ctl = .bank2 st) ∧
    (∃ st, (onVariant3 false 0 0).bus.cart.ctl = .bank3 st ∧ st.ramEnable = false) ∧
    (∃ st, (onVariant3 true 3 0).bus.cart.ctl = .bank3 st ∧ st.ramEnable = true ∧ st.ramBank.toNat < 4) ∧
    (∃ st, (onVariant3 true 12 0).bus.cart.ctl = .bank3 st ∧ 8 ≤ st.ramBank.toNat ∧ st.ramBank.toNat ≤ 12) ∧
    (∃ st, (onVariant3 true 4 0).bus.cart.ctl = .bank3 st ∧ 4 ≤ st.ramBank.toNat ∧ st.ramBank.toNat < 8) ∧
    ∃ st, (onVariant3 true 13 0).bus.cart.ctl = .bank3 st ∧ 12 < st.ramBank.toNat :=
  ⟨by decide, by decide, by decide, by decide, rfl, ⟨_, rfl⟩, ⟨_, rfl⟩, ⟨_, rfl, rfl⟩, ⟨_, rfl, rfl, by decide⟩,
    ⟨_, rfl, by decide, by decide⟩, ⟨_, rfl, by decide, by decide⟩, _, rfl, by decide⟩

theorem witness_RomIsImmutable : ∃ t, step (code [0x77] bare) = .next t := ⟨_, rfl⟩

theorem witness_ReadOnlyFields : 0xFF00 ≤ (0xFF45#16).toNat ∧ (0xFF45#16) ≠ 0xFF46 := by decide

/-- A page that is work RAM; a page whose first byte the cartridge refuses; in an image of 80 bytes, a page
that is refused at byte 80. -/
theorem witness_OamDma : ((0xC1#8).toNat ≤ 0xFE ∧
      ∀ k, k < 160 → bare.bus.readable (word 0xC1 (BitVec.ofNat 8 k)) = true) ∧
    bare.bus.readable (word 0xA0 (BitVec.ofNat 8 0)) = false ∧
    (let b := (onCart .plain 80 bare).bus
     (∀ k, k < 80 → b.readable (word 0x00 (BitVec.ofNat 8 k)) = true) ∧ b.readable (word 0x00 (BitVec.ofNat 8 80)) = false) ∧
    regionOf (word 0xFF (BitVec.ofNat 8 0x9F)).toNat ≠ .unmapped := by
  have hw : ∀ (v : Byte) (k : Nat), k < 160 → (word v (BitVec.ofNat 8 k)).toNat = 256 * v.toNat + k := by
    intro v k hk
    unfold word
    rw [BitVec.toNat_append, ← Nat.shiftLeft_add_eq_or_of_lt (BitVec.ofNat 8 k).isLt, BitVec.toNat_ofNat,
      Nat.shiftLeft_eq]
    omega
  refine ⟨⟨by decide, fun k hk => ?_⟩, by decide, ⟨fun k hk => ?_, by decide⟩, by decide⟩
  · unfold Bus.readable regionOf
    rw [hw _ _ hk, show BitVec.toNat (0xC1 : Byte) = 193 from rfl, if_neg (by omega), if_neg (by omega), if_neg (by omega),
      if_pos (by omega)]
  · unfold Bus.readable regionOf
    rw [hw _ _ (by omega), show BitVec.toNat (0x00 : Byte) = 0 from rfl, if_pos (by omega)]
    unfold Cartridge.readable Cartridge.target Cartridge.romTarget
    dsimp only
    rw [if_pos (by omega), if_pos (by simpa [onCart] using hk)]
    rfl

theorem witness_SetInputPress : bare.cpu.fault = none ∧ bare.bus.pressed.get .start = false := ⟨rfl, rfl⟩

theorem witness_TimerAdvance : bare.bus.io.tac.getLsbD 2 = false ∧ (poke 0xFF07 0x05 bare).bus.io.tac.getLsbD 2 = true := by
  decide

theorem witness_PhaseAccounting :
    (([4, 4].foldl (fun u budget => State.runPhase budget u) (bare.setHalted true)).cpu.fault = none) ∧
    (Nat.repeat State.stepped 0 (bare.raise (.unknownOpcode 0xD3))).cpu.fault ≠ none := by decide

/-! ### A frame without a fatal error -/

/-- Stopped, with no interrupt to take and no fatal error. -/
def Stopped (s : State) : Prop :=
  s.cpu.fault = none ∧ s.cpu.ime = false ∧ s.cpu.halted = false ∧ s.cpu.stopped = true

theorem stopped_stepped (s : State) (h : Stopped s) : Stopped s.stepped := by
  obtain ⟨h1, h2, h3, h4⟩ := h
  have hw : s.wake = s := by unfold State.wake; rw [h3]; rfl
  have hs : step s = .next (s.tick s.bus.cfg.idleTicks) := by
    unfold step State.dispatched
    rw [hw, h1, h2, h3, h4]
    rfl
  unfold State.stepped
  rw [hs]
  exact ⟨h1, h2, h3, h4⟩

theorem stopped_until (fuel start target : Nat) (s : State) (h : Stopped s) : Stopped (s.stepUntil fuel start target) := by
  induction fuel generalizing s with
  | zero => exact h
  | succ fuel ih =>
    unfold State.stepUntil
    split
    · exact ih _ (stopped_stepped s h)
    · exact h

theorem stopped_unless (s : State) (f : State → State) (h : Stopped s) (hf : ∀ t, Stopped t → Stopped (f t)) :
    Stopped (s.unlessFault f) := by
  unfold State.unlessFault
  split
  · exact h
  · exact hf s h

theorem stopped_phase (budget : Nat) (s : State) (h : Stopped s) : Stopped (s.runPhase budget) :=
  stopped_unless _ _ (stopped_until _ _ _ _ h) fun _ ht => ht

theorem stopped_visible (render : Bool) (y : Nat) (s : State) (h : Stopped s) : Stopped (s.visibleLine render y) := by
  unfold State.visibleLine
  exact stopped_unless _ _ (stopped_unless _ _ (stopped_unless _ _ (stopped_unless _ _ (stopped_unless _ _
    (stopped_unless _ _ (stopped_unless _ _ h fun _ k => k) (fun t => stopped_phase _ t)) fun _ k => k) (fun t => stopped_phase _ t))
    fun _ k => k) (fun t => stopped_phase _ t)) fun _ k => k

theorem stopped_vblank (y : Nat) (s : State) (h : Stopped s) : Stopped (s.vblankLine y) := by
  unfold State.vblankLine
  exact stopped_unless _ _ (stopped_unless _ _ (stopped_unless _ _ h fun _ k => k) (fun t => stopped_phase _ t)) fun _ k => k

theorem stopped_lines (line : Nat → State → State) (hl : ∀ y s, Stopped s → Stopped (line y s)) (n y : Nat) (s : State)
    (h : Stopped s) : Stopped (runLines line n y s) := by
  induction n generalizing y s with
  | zero => exact h
  | succ n ih => exact ih _ _ (hl y s h)

theorem stopped_bus (s : State) (f : Bus → Bus) (h : Stopped s) : Stopped (s.onBus f) := h

theorem stopped_frame (pcm : List Int → List Byte) (s : State) (h : Stopped s) : Stopped (runFrame pcm s).1 := by
  have k : Stopped ((s.onBus fun b => { b with draws := b.draws + 1 }).frameLines (Config.freeRender s.bus.draws)) := by
    unfold State.frameLines
    exact stopped_lines _ stopped_vblank _ _ _ (stopped_lines _ (stopped_visible _) _ _ _ h)
  rw [runFrame_of_none pcm s h.1]
  revert k
  generalize State.frameLines _ _ = t
  intro k
  rcases endFrame_cases pcm (Config.freeRender s.bus.draws) t with ⟨f, _⟩ | ⟨_, _, e⟩
  · exact absurd k.1 f
  · rw [e]; exact stopped_bus _ _ k

theorem witness_FrameAccounting : (runFrame Config.pcmDefault (bare.setStopped true)).1.cpu.fault = none :=
  (stopped_frame _ _ ⟨rfl, rfl, rfl, rfl⟩).1

/-! ### The invariant, a line, construction -/

theorem witness_invariant : (onVariant2 bare).Inv where
  storage := by decide
  palettes := ⟨rfl, rfl, rfl⟩
  banks := by decide
  caches := by
    have e : (onVariant2 bare).bus.caches = ⟨[], [], []⟩ := rfl
    unfold Bus.cachesCurrent
    rw [e]
    refine ⟨?_, ?_, ?_⟩ <;> (intro _ _ h; cases h)
  picture := by decide
  wave := fun k => by
    show Cells.read 0 [] (2 * k) = (Memory.read [] k).extractLsb' 4 4 ∧
      Cells.read 0 [] (2 * k + 1) = (Memory.read [] k).extractLsb' 0 4
    simp [Memory.read, Cells.read, Cells.lookup]
  mixer := ⟨rfl, rfl, ⟨rfl, rfl⟩, ⟨rfl, rfl⟩, ⟨rfl, rfl⟩, rfl, rfl⟩

theorem witness_StepKeepsInvariant : (onVariant2 bare).Inv ∧ ∃ t, step (onVariant2 bare) = .next t :=
  ⟨witness_invariant, _, rfl⟩

theorem witness_CachedRenderIsDirect : (onVariant2 bare).bus.Inv ∧ (143 : Nat) < 144 ∧ ∃ t, step bare = .next t :=
  ⟨witness_invariant, by decide, _, rfl⟩

/-- A legal record that is not the default: sprite tile 5 valid, tone 1 sounding. -/
def running : Reset :=
  { Reset.default with
    caches := { TileCaches.allDirty with sprite := [(5, objTile [] .reset 5)] }
    running := { SoundRunning.reset with ch1 := { pos := 9, len := 7, amp := 15 }, envCount1 := 2, sweepCount := 1 } }

theorem running_legal : running.legal .default := by
  refine ⟨by decide, fun k t h => (by cases h), fun k t h => (by cases h), fun k t h => ?_⟩
  change (if 5 = k then _ else none) = some t at h
  split at h
  · rename_i e; subst e; cases h; exact ⟨by decide, rfl⟩
  · cases h

/-- A blank image of the smallest length meets the conditions; one byte less does not. -/
theorem witness_ConstructionInvariant : running.legal .default ∧
    (0x8000 ≤ (List.replicate 0x8000 (0 : Byte)).length ∧ (List.replicate 0x8000 (0 : Byte)).length % 0x4000 = 0 ∧
      ((List.replicate 0x8000 (0 : Byte)).getD 0x0147 0).toNat ∈ [0x00, 0x01]) ∧
    ¬0x8000 ≤ (List.replicate 0x7FFF (0 : Byte)).length := by
  rw [List.length_replicate, List.length_replicate, List.getD_eq_getElem?_getD, List.getElem?_replicate]
  exact ⟨running_legal, by decide⟩

/-- The running fields and the valid tiles of a reset record reach the state (10_state.md R47, R48). -/
theorem test_reset_running : let b := (State.atReset .default running .blank).bus
    (b.snd.ch1.voice.pos, b.snd.ch1.voice.len, b.snd.ch1.amp, b.snd.ch1.env.count, b.snd.sweep.count) = (9, 7, 15, 2, 1) ∧
    b.snd.ch1.freq = 0x700 ∧ b.snd.ch2.amp = 0 ∧ b.caches.sprite.map Prod.fst = [5] := by
  exact ⟨rfl, rfl, rfl, rfl⟩

end Sys2Proof.Tests
end

section
/-! PROOFS. After a fatal error (10_state.md R24): every operation of the driver and of the host leaves the state. -/

namespace Sys2Proof.Machine

/-! ### After a fatal error (60_exceptions.md R272) -/

section
variable {s : State} (h : s.cpu.fault.isSome = true)
include h

theorem step_of_fault : step s = .next s := by unfold step; rw [if_pos h]

theorem State.unlessFault_of_fault (f : State → State) : s.unlessFault f = s := if_pos h

theorem State.stepUntil_of_fault (fuel start target : Nat) : s.stepUntil fuel start target = s := by
  have hn : s.cpu.fault.isNone = false := by rw [← Option.not_isSome, h]; rfl
  cases fuel with
  | zero => rfl
  | succ fuel => unfold State.stepUntil; rw [if_neg (by simp [hn])]

theorem State.runPhase_of_fault (budget : Nat) : s.runPhase budget = s := by
  unfold State.runPhase
  simp only [State.stepUntil_of_fault h, State.unlessFault_of_fault h]

theorem State.visibleLine_of_fault (render : Bool) (y : Nat) : s.visibleLine render y = s := by
  unfold State.visibleLine
  simp only [State.unlessFault_of_fault h]

theorem State.vblankLine_of_fault (y : Nat) : s.vblankLine y = s := by
  unfold State.vblankLine
  simp only [State.unlessFault_of_fault h]

theorem runFrame_eq_of_fault (pcm : List Int → List Byte) :
    runFrame pcm s = (s, { pixels := none, audio := none }) := if_pos h

theorem setInput_of_fault (k : Button) (p : Bool) : setInput k p s = s := State.unlessFault_of_fault h _

end

theorem Fault.kinds (f : Fault) : (∃ op, f = .unknownOpcode op) ∨ ∃ a, f = .cartridgeAccess a := by
  cases f with
  | unknownOpcode op => exact .inl ⟨op, rfl⟩
  | cartridgeAccess a => exact .inr ⟨a, rfl⟩

/-- Settles O6: every operation of the driver and of the host goes through `step` or `unlessFault`, and both leave a state
that holds a fatal error. -/
theorem faultIsFinal : Obligations.FaultIsFinal := by
  intro s f hf
  have h : s.cpu.fault.isSome = true := by rw [hf]; rfl
  exact ⟨step_of_fault h, State.runPhase_of_fault h,
    fun render y => ⟨State.visibleLine_of_fault h render y, State.vblankLine_of_fault h y⟩,
    runFrame_eq_of_fault h, setInput_of_fault h, f.kinds⟩

end Sys2Proof.Machine
end

section
/-! PROOFS. Who writes IME and halted (10_state.md R19, R20): the instructions one by one, then the branches of a Step. -/

namespace Sys2Proof.Machine

/-! ### Who writes IME and halted -/

theorem Instr.eq_of_not_plain {i : Instr} (h : ¬Instr.plain i = true) :
    i = .di ∨ i = .ei ∨ i = .reti ∨ i = .halt ∨ ∃ n, i = .stop n := by
  cases i with
  | di => exact .inl rfl
  | ei => exact .inr (.inl rfl)
  | reti => exact .inr (.inr (.inl rfl))
  | halt => exact .inr (.inr (.inr (.inl rfl)))
  | stop n => exact .inr (.inr (.inr (.inr ⟨n, rfl⟩)))
  | _ => exact absurd rfl h

theorem Instr.ne_of_plain {i : Instr} (h : Instr.plain i = true) : i ≠ .di ∧ i ≠ .ei ∧ i ≠ .reti ∧ i ≠ .halt := by
  simp only [Instr.plain, Bool.and_eq_true, decide_eq_true_eq] at h
  obtain ⟨⟨⟨⟨hdi, hei⟩, hreti⟩, hhalt⟩, _⟩ := h
  exact ⟨hdi, hei, hreti, hhalt⟩

theorem exec_of_plain {i : Instr} {s t : State} (h : Instr.plain i = true) (e : exec i s = .next t) : s.Same t := by
  obtain ⟨u, eu, same, _⟩ := exec_goes i s h
  cases e.symm.trans eu
  exact same

/-- RETI sets IME where neither pop is refused (46_control.md R254), and never writes halted. -/
theorem exec_reti_control {s t : State} (hf : s.cpu.fault = none) (e : exec .reti s = .next t) :
    t.cpu.ime = (t.cpu.fault.isNone || s.cpu.ime) ∧ t.cpu.halted = s.cpu.halted := by
  change (returnFromInterrupt s).finish _ = _ at e
  have hc := pop16_calm s
  unfold returnFromInterrupt at e
  generalize pop16 s = r at hc e
  cases r with
  | ok v u =>
    obtain ⟨⟨_, hh, _, _⟩, _, hu⟩ := hc
    cases e
    exact ⟨by simp [hu, hf], hh⟩
  | fatal u =>
    obtain ⟨⟨hi, hh, _, _⟩, _, hu⟩ := hc
    cases e
    exact ⟨by rw [← Option.not_isSome, hu, hi]; rfl, hh⟩

theorem State.haltWith_ime (s : State) (halts : Bool) : (s.haltWith halts).cpu.ime = s.cpu.ime := by
  unfold State.haltWith
  simp only
  split <;> split <;> rfl

/-- HALT sets halted but where it arms the fetch quirk alone (47_system.md R261). -/
theorem State.haltWith_halted (s : State) (halts : Bool) :
    (s.haltWith halts).cpu.halted = (s.cpu.halted || !s.haltQuirk || halts) := by
  unfold State.haltWith
  cases s.haltQuirk <;> cases halts <;> simp

theorem exec_ime {i : Instr} {s t : State} (hf : s.cpu.fault = none) (e : exec i s = .next t) :
    t.cpu.ime = (if i = .di then false else if i = .ei then true
      else if i = .reti then t.cpu.fault.isNone || s.cpu.ime else s.cpu.ime) := by
  by_cases hp : Instr.plain i = true
  · obtain ⟨hdi, hei, hreti, _⟩ := Instr.ne_of_plain hp
    obtain ⟨hi, _⟩ := exec_of_plain hp e
    rw [if_neg hdi, if_neg hei, if_neg hreti, hi]
  · rcases Instr.eq_of_not_plain hp with rfl | rfl | rfl | rfl | ⟨n, rfl⟩
    · cases e; rfl
    · cases e; rfl
    · exact (exec_reti_control hf e).1
    · cases e; exact s.haltWith_ime _
    · cases e; rfl

theorem exec_halted {i : Instr} {s t : State} (hf : s.cpu.fault = none) (e : exec i s = .next t) (hi : i ≠ .halt) :
    t.cpu.halted = s.cpu.halted := by
  by_cases hp : Instr.plain i = true
  · obtain ⟨_, hh, _⟩ := exec_of_plain hp e
    exact hh
  · rcases Instr.eq_of_not_plain hp with rfl | rfl | rfl | rfl | ⟨n, rfl⟩
    · cases e; rfl
    · cases e; rfl
    · exact (exec_reti_control hf e).2
    · exact absurd rfl hi
    · cases e; rfl

theorem exec_keeps_halted {i : Instr} {s t : State} (hf : s.cpu.fault = none) (e : exec i s = .next t)
    (h : s.cpu.halted = true) : t.cpu.halted = true := by
  by_cases hi : i = .halt
  · subst hi
    cases e
    rw [State.tick_halted, State.haltWith_halted, h, Bool.true_or, Bool.true_or]
  · exact (exec_halted hf e hi).trans h

/-! ### The branches of a Step -/

theorem firstSource_eq_none_iff (p : BitVec 5) : firstSource p = none ↔ p = 0 := by
  revert p; decide

@[simp] theorem State.wake_dispatched (s : State) : s.wake.dispatched = s.dispatched := by
  obtain ⟨_, _, hi⟩ := s.wake_keeps
  unfold State.dispatched
  rw [hi, State.wake_bus]

theorem State.wake_of_running {s : State} (h : s.cpu.halted = false) : s.wake = s := by
  unfold State.wake; simp [h]

theorem State.wake_of_idle {s : State} (h : s.bus.pending = 0) : s.wake = s := by
  unfold State.wake; simp [h]

theorem State.wake_of_pending {s : State} (h : s.cpu.halted = true) (hp : s.bus.pending ≠ 0) :
    s.wake = s.setHalted false :=
  if_pos (by rw [h, decide_eq_true hp]; rfl)

theorem State.dispatched_of_pending {s : State} (hi : s.cpu.ime = true) (hp : s.bus.pending ≠ 0) :
    ∃ i, s.dispatched = some i := by
  refine Option.ne_none_iff_exists'.mp fun hn => hp ?_
  unfold State.dispatched at hn
  rw [if_pos hi] at hn
  exact (firstSource_eq_none_iff _).mp hn

theorem State.dispatched_of_idle {s : State} (h : s.bus.pending = 0) : s.dispatched = none := by
  unfold State.dispatched
  rw [h]
  split <;> rfl

theorem State.dispatched_of_ime_false {s : State} (h : s.cpu.ime = false) : s.dispatched = none := by
  unfold State.dispatched; simp [h]

/-- What a Step without a fatal error can be: a dispatch, an idle period, an instruction or a refused fetch
(60_exceptions.md R290). -/
inductive StepsTo (s : State) : State → Prop where
  | dispatch {t : State} (i : Fin 5) (hd : s.dispatched = some i) (e : takeInterrupt i s.wake = .next t) : StepsTo s t
  | idle : StepsTo s (s.wake.tick s.bus.cfg.idleTicks)
  | instr {t : State} (i : Instr) (u : State) (hu : fetchInstr s.wake = .ok i u) (e : exec i u = .next t) : StepsTo s t
  | refused (u : State) (hu : fetchInstr s.wake = .fatal u) : StepsTo s u

theorem step_cases {s t : State} (hf : s.cpu.fault = none) (e : step s = .next t) : StepsTo s t := by
  unfold step at e
  rw [hf] at e
  simp only [Option.isSome_none, Bool.false_eq_true, if_false] at e
  split at e
  · rename_i i hd
    exact .dispatch i (s.wake_dispatched ▸ hd) e
  split at e
  · cases e; exact .idle
  split at e
  · rename_i i u hu
    exact .instr i u hu e
  · rename_i hu
    cases e
    exact .refused _ hu

theorem step_of_dispatched {s : State} {i : Fin 5} (hf : s.cpu.fault = none) (hd : s.dispatched = some i) :
    step s = takeInterrupt i s.wake := by
  unfold step
  simp only [hf, Option.isSome_none, Bool.false_eq_true, if_false, State.wake_dispatched, hd]

theorem step_of_halted_idle {s : State} (hf : s.cpu.fault = none) (hh : s.cpu.halted = true)
    (hp : s.bus.pending = 0) : step s = .next (s.tick s.bus.cfg.idleTicks) := by
  unfold step
  simp only [hf, Option.isSome_none, Bool.false_eq_true, if_false, State.wake_of_idle hp,
    State.dispatched_of_idle hp, hh, Bool.true_or, if_true]

theorem State.wake_wake (s : State) : s.wake.wake = s.wake := by
  cases hh : s.cpu.halted with
  | false => rw [State.wake_of_running hh, State.wake_of_running hh]
  | true =>
    by_cases hp : s.bus.pending = 0
    · rw [State.wake_of_idle hp, State.wake_of_idle hp]
    · rw [State.wake_of_pending hh hp]
      exact State.wake_of_running (s.setHalted_halted false)

/-- The wake rule is the first thing a Step does (60_exceptions.md R292). -/
theorem step_wake {s : State} (hf : s.cpu.fault = none) : step s.wake = step s := by
  obtain ⟨hw, _, _⟩ := s.wake_keeps
  unfold step
  rw [s.wake_wake, hw, State.wake_bus, hf]
  rfl

theorem exec_sets_ime {i : Instr} {s t : State} (hf : s.cpu.fault = none) (e : exec i s = .next t)
    (hs : s.cpu.ime = false) (ht : t.cpu.ime = true) : i = .ei ∨ i = .reti := by
  by_cases hei : i = .ei
  · exact .inl hei
  by_cases hreti : i = .reti
  · exact .inr hreti
  rw [exec_ime hf e, if_neg hei, if_neg hreti, hs, ite_self] at ht
  cases ht

theorem exec_sets_halted {i : Instr} {s t : State} (hf : s.cpu.fault = none) (e : exec i s = .next t)
    (hs : s.cpu.halted = false) (ht : t.cpu.halted = true) : i = .halt := by
  refine Decidable.byContradiction fun hi => ?_
  rw [exec_halted hf e hi, hs] at ht
  cases ht

/-- The state an instruction runs in differs from the one its fetch began in by neither IME, halted nor the error. -/
theorem fetchInstr_ok_control {s u : State} {i : Instr} (e : fetchInstr s = .ok i u) :
    u.cpu.ime = s.cpu.ime ∧ u.cpu.halted = s.cpu.halted ∧ u.cpu.fault = s.cpu.fault := by
  have h := fetchInstr_fetches s
  rw [e] at h
  obtain ⟨hi, hh, _, hf⟩ := h
  exact ⟨hi, hh, hf⟩

theorem fetchInstr_fatal_control {s u : State} (e : fetchInstr s = .fatal u) :
    u.cpu.ime = s.cpu.ime ∧ u.cpu.halted = s.cpu.halted := by
  have h := fetchInstr_fetches s
  rw [e] at h
  obtain ⟨hi, hh, _⟩ := h
  exact ⟨hi, hh⟩

theorem takeInterrupt_clears {i : Fin 5} {s t : State} (e : takeInterrupt i s = .next t) :
    t.cpu.ime = false ∧ t.cpu.halted = false := by
  obtain ⟨u, eu, hi, hh, _⟩ := takeInterrupt_passes i s
  cases e.symm.trans eu
  exact ⟨hi, hh⟩

theorem step_sets_ime {s t : State} (hf : s.cpu.fault = none) (e : step s = .next t) (hs : s.cpu.ime = false)
    (ht : t.cpu.ime = true) : ∃ i u, fetchInstr s.wake = .ok i u ∧ (i = .ei ∨ i = .reti) := by
  obtain ⟨hwf, _, hwi⟩ := s.wake_keeps
  cases step_cases hf e with
  | dispatch i hd e =>
    rw [(takeInterrupt_clears e).1] at ht
    cases ht
  | idle =>
    rw [State.tick_ime, hwi, hs] at ht
    cases ht
  | instr i u hu e =>
    obtain ⟨hi, _, hfu⟩ := fetchInstr_ok_control hu
    exact ⟨i, u, hu, exec_sets_ime (hfu.trans (hwf.trans hf)) e (hi.trans (hwi.trans hs)) ht⟩
  | refused _ hu =>
    rw [(fetchInstr_fatal_control hu).1, hwi, hs] at ht
    cases ht

theorem step_sets_halted {s t : State} (hf : s.cpu.fault = none) (e : step s = .next t) (hs : s.cpu.halted = false)
    (ht : t.cpu.halted = true) : ∃ u, fetchInstr s = .ok .halt u := by
  have hw := State.wake_of_running hs
  cases step_cases hf e with
  | dispatch i hd e =>
    rw [(takeInterrupt_clears e).2] at ht
    cases ht
  | idle =>
    rw [State.tick_halted, hw, hs] at ht
    cases ht
  | instr i u hu e =>
    rw [hw] at hu
    obtain ⟨_, hh, hfu⟩ := fetchInstr_ok_control hu
    cases exec_sets_halted (hfu.trans hf) e (hh.trans hs) ht
    exact ⟨u, hu⟩
  | refused _ hu =>
    rw [hw] at hu
    rw [(fetchInstr_fatal_control hu).2, hs] at ht
    cases ht

/-- Settles O8: `exec_ime`, `exec_halted` for the instructions; for a Step the branches it can take. -/
theorem imeAndHaltedWriters : Obligations.ImeAndHaltedWriters := by
  refine ⟨fun i s t hf e => ⟨exec_ime hf e, exec_halted hf e, exec_keeps_halted hf e⟩,
    fun s t hf e => ⟨fun hi hp => ?_, step_sets_ime hf e, fun hh hp => ?_, fun hh hp => ?_, step_sets_halted hf e⟩⟩
  · obtain ⟨i, hd⟩ := State.dispatched_of_pending hi hp
    exact takeInterrupt_clears ((step_of_dispatched hf hd).symm.trans e)
  · cases e.symm.trans (step_of_halted_idle hf hh hp)
    have hpos := one_le_idleTicks s.bus.cfg
    exact ⟨rfl, by rw [State.tick_ticks]; omega, hh⟩
  · rw [← State.wake_of_pending hh hp, step_wake hf]

end Sys2Proof.Machine
end

section
/-! PROOFS. What byte accesses cannot reach: the loaded image (10_state.md R41) and the read-only fields (R40). -/

namespace Sys2Proof.Machine

/-! ### What no write reaches -/

/-- A part of the bus that no store to a region and no register write changes is left by every write, also by the copy
that a write to `DMA` makes. -/
theorem Bus.write_leaves {α : Type} (f : Bus → α) (hread : ∀ b a, f (b.read a).after = f b)
    (hcart : ∀ b a v, f (b.writeCart a v).after = f b) (hvram : ∀ b o v, f (b.writeVram o v) = f b)
    (hwram : ∀ b m, f { b with wram := m } = f b) (hoam : ∀ b m, f { b with oam := m } = f b)
    (hhram : ∀ b m, f { b with hram := m } = f b) (hie : ∀ b v, f { b with io := { b.io with ie := v } } = f b)
    (hio : ∀ b r v, f (b.ioWrite r v) = f b) (b : Bus) (a : Word) (v : Byte) : f (b.write a v).after = f b := by
  unfold Bus.write
  split
  · exact hcart b a v
  · exact hvram b _ v
  · exact hwram b _
  · exact hoam b _
  · exact hhram b _
  · exact hie b v
  · exact dmaCopy_keeps (fun c => f c = f b) (fun c x h => (hread c x).trans h) (fun c m h => (hoam c m).trans h)
      v _ 0 (hio b .dma v)
  · exact hio b _ v
  · rfl

/-- A read changes the tile caches and the number of draws, nothing else (20_memory.md R62). -/
theorem Bus.read_leaves {α : Type} (f : Bus → α) (hcaches : ∀ b c, f { b with caches := c } = f b)
    (hdraws : ∀ b n, f { b with draws := n } = f b) (b : Bus) (a : Word) : f (b.read a).after = f b := by
  unfold Bus.read
  split
  · show f (b.afterRead a) = f b
    unfold Bus.afterRead
    split
    · exact hcaches b _
    · exact hcaches b _
    · exact hcaches b _
    · exact hdraws b _
    · rfl
  · rfl

/-! ### The loaded image -/

/-- The four kinds of controller of 20_memory.md R92. -/
inductive Variant where
  | plain | bank1 | bank2 | bank3

/-- The kind of a controller, without its registers. -/
def Controller.variant (c : Controller) : Variant :=
  match c with
  | .plain => .plain
  | .bank1 _ => .bank1
  | .bank2 _ => .bank2
  | .bank3 _ => .bank3

theorem Controller.variant_control (c : Controller) (a : Nat) (v : Byte) (now : Rtc) :
    (c.control a v now).variant = c.variant := by cases c <;> rfl

/-- What a load fixes of a cartridge: the image, its length and the variant (10_state.md R26, R41). -/
def Cartridge.loaded (c : Cartridge) : Memory × Nat × Variant := (c.rom, c.romLen, c.ctl.variant)

theorem Cartridge.write_variant (c : Cartridge) (a : Nat) (v : Byte) (now : Rtc) :
    (c.write a v now).ctl.variant = c.ctl.variant := by
  unfold Cartridge.write
  split
  · exact c.ctl.variant_control a v now
  split
  · rfl
  · split
    · rename_i st h
      rw [h]; rfl
    · rfl
  · rfl

theorem Cartridge.write_loaded (c : Cartridge) (a : Nat) (v : Byte) (now : Rtc) :
    (c.write a v now).loaded = c.loaded := by
  obtain ⟨hrom, hlen, _⟩ := c.write_image a v now
  unfold Cartridge.loaded
  rw [hrom, hlen, c.write_variant]

theorem Bus.writeCart_loaded (b : Bus) (a : Word) (v : Byte) : (b.writeCart a v).after.cart.loaded = b.cart.loaded := by
  unfold Bus.writeCart
  split
  · exact b.cart.write_loaded _ v _
  · rfl

theorem Bus.read_loaded (b : Bus) (a : Word) : (b.read a).after.cart.loaded = b.cart.loaded :=
  Bus.read_leaves (fun b => b.cart.loaded) (fun _ _ => rfl) (fun _ _ => rfl) b a

theorem Bus.write_loaded (b : Bus) (a : Word) (v : Byte) : (b.write a v).after.cart.loaded = b.cart.loaded :=
  Bus.write_leaves (fun b => b.cart.loaded) Bus.read_loaded Bus.writeCart_loaded (fun _ _ _ => rfl) (fun _ _ => rfl)
    (fun _ _ => rfl) (fun _ _ => rfl) (fun _ _ => rfl) (fun _ r _ => by cases r <;> rfl) b a v

/-- A Step goes through byte accesses and acknowledgements alone, and none of them reaches the loaded image. -/
theorem step_loaded {s t : State} (e : step s = .next t) : t.bus.cart.loaded = s.bus.cart.loaded :=
  step_keeps (fun b => b.cart.loaded = s.bus.cart.loaded) (fun b a h => (b.read_loaded a).trans h)
    (fun b a v h => (b.write_loaded a v).trans h) (fun _ _ h => h) e rfl

theorem step_cfg {s t : State} (e : step s = .next t) : t.bus.cfg = s.bus.cfg :=
  step_keeps (fun b => b.cfg = s.bus.cfg) (fun b a h => (b.read_cfg a).trans h)
    (fun b a v h => (b.write_cfg a v).trans h) (fun _ _ h => h) e rfl

/-- Settles O44 by `step_loaded` and `step_cfg`. -/
theorem romIsImmutable : Obligations.RomIsImmutable := by
  intro s t e
  have h := step_loaded e
  simp only [Cartridge.loaded, Prod.mk.injEq] at h
  obtain ⟨hrom, hlen, hvariant⟩ := h
  refine ⟨hrom, hlen, step_cfg e, ?_⟩
  generalize s.bus.cart.ctl = c at hvariant
  generalize t.bus.cart.ctl = d at hvariant
  cases c <;> cases d <;> cases hvariant <;> trivial

/-! ### The read-only fields -/

/-- What only the driver and the host write (10_state.md R40): LY, the LCD mode, the buttons. -/
def Bus.readOnly (b : Bus) : Byte × BitVec 2 × Buttons := (b.io.ly, b.io.mode, b.pressed)

theorem Bus.writeCart_readOnly (b : Bus) (a : Word) (v : Byte) : (b.writeCart a v).after.readOnly = b.readOnly := by
  unfold Bus.writeCart
  split <;> rfl

theorem Bus.write_readOnly (b : Bus) (a : Word) (v : Byte) : (b.write a v).after.readOnly = b.readOnly :=
  Bus.write_leaves Bus.readOnly (Bus.read_leaves Bus.readOnly (fun _ _ => rfl) fun _ _ => rfl) Bus.writeCart_readOnly
    (fun _ _ _ => rfl) (fun _ _ => rfl) (fun _ _ => rfl) (fun _ _ => rfl) (fun _ _ => rfl)
    (fun _ r _ => by cases r <;> rfl) b a v

theorem Bus.written_eq_after (b : Bus) (a : Word) (v : Byte) : b.written a v = (b.write a v).after := by
  unfold Bus.written Access.after
  cases b.write a v <;> rfl

/-! ### The fixed and the computed bits of the registers (20_memory.md R75, R80) -/

theorem Bus.value_p1 (b : Bus) : b.value 0xFF00 = 0b11#2 ++ b.io.p1Sel ++ joypadBits b.io.p1Sel b.pressed := rfl

theorem Bus.value_stat (b : Bus) :
    b.value 0xFF41 = 0b1#1 ++ b.io.statEnable ++ BitVec.ofBool (decide (b.io.ly = b.io.lyc)) ++ b.io.mode := rfl

theorem Bus.p1_buttons (b : Bus) : (b.value 0xFF00).extractLsb' 0 4 = joypadBits b.io.p1Sel b.pressed := by
  rw [b.value_p1]
  exact BitVec.extractLsb'_append_eq_right

theorem Bus.p1_fixed (b : Bus) : (b.value 0xFF00).extractLsb' 6 2 = 0b11#2 := by
  rw [b.value_p1, BitVec.append_assoc]
  exact BitVec.extractLsb'_append_eq_left

theorem Bus.ifl_fixed (b : Bus) : (b.value 0xFF0F).extractLsb' 5 3 = 0b111#3 :=
  BitVec.extractLsb'_append_eq_left (a := 0b111#3) (b := b.io.ifl)

theorem Bus.tac_fixed (b : Bus) : (b.value 0xFF07).extractLsb' 3 5 = 0b11111#5 :=
  BitVec.extractLsb'_append_eq_left (a := 0b11111#5) (b := b.io.tac)

theorem Bus.stat_fixed (b : Bus) : (b.value 0xFF41).getLsbD 7 = true := by
  rw [b.value_stat]
  simp only [BitVec.getLsbD_append]
  rfl

theorem Bus.stat_lineMatch (b : Bus) : (b.value 0xFF41).getLsbD 2 = decide (b.io.ly = b.io.lyc) := by
  rw [b.value_stat]
  simp only [BitVec.getLsbD_append]
  exact BitVec.getLsbD_ofBool _ 0

theorem Bus.stat_mode (b : Bus) : (b.value 0xFF41).extractLsb' 0 2 = b.io.mode := by
  rw [b.value_stat]
  exact BitVec.extractLsb'_append_eq_right

/-! ### The high page is open -/

theorem ioRegAt_dma {o : Nat} (h : ioRegAt o = some .dma) : o = 0x46 := by
  unfold ioRegAt at h
  split at h
  · cases h
  · have := Cells.mem_of_lookup h
    simpa [ioRegsLow, ioRegsSound, ioRegsLcd] using this

theorem regionOf_dma {a : Word} (h : regionOf a.toNat = .io .dma) : a = 0xFF46 := by
  obtain ⟨hr, ho⟩ := regionOf_io h
  have := ioRegAt_dma ho
  exact BitVec.eq_of_toNat_eq (show a.toNat = 0xFF46 by omega)

theorem regionOf_ne_cart {a : Word} (h : 0xFF00 ≤ a.toNat) (n : Nat) : regionOf a.toNat ≠ .cart n := by
  intro hc
  have := (regionOf_cart hc).2
  omega

theorem Bus.readable_of_high (b : Bus) {a : Word} (h : 0xFF00 ≤ a.toNat) : b.readable a = true := by
  unfold Bus.readable
  split
  · rename_i hc
    exact absurd hc (regionOf_ne_cart h _)
  · rfl

/-- Only the cartridge refuses a write, and only a write to `DMA` goes on to the cartridge from the high page. -/
theorem Bus.writable_of_high (b : Bus) {a : Word} (v : Byte) (h : 0xFF00 ≤ a.toNat) (hd : a ≠ 0xFF46) :
    b.writable a v = true := by
  unfold Bus.writable Bus.write
  cases hr : regionOf a.toNat with
  | cart n => exact absurd hr (regionOf_ne_cart h n)
  | io r =>
    cases r with
    | dma => exact absurd (regionOf_dma hr) hd
    | _ => rfl
  | _ => rfl

/-- Settles O48: a write leaves the read-only fields (`Bus.write_readOnly`); the rest is how any bus shows its registers. -/
theorem readOnlyFields : Obligations.ReadOnlyFields := by
  intro b a v c
  have hw : c.readOnly = b.readOnly :=
    (congrArg Bus.readOnly (b.written_eq_after a v)).trans (b.write_readOnly a v)
  simp only [Bus.readOnly, Prod.mk.injEq] at hw
  obtain ⟨hly, hmode, hpressed⟩ := hw
  exact ⟨hly, hmode, hpressed, hpressed ▸ c.p1_buttons, c.p1_fixed, c.ifl_fixed, c.stat_fixed, c.stat_lineMatch,
    c.stat_mode.trans hmode, c.tac_fixed, fun h => ⟨b.readable_of_high h, b.writable_of_high v h⟩⟩

end Sys2Proof.Machine
end

section
/-! PROOFS. The address space (20_memory.md R51 to R81): the owner of an address, and what a byte access does there. -/

namespace Sys2Proof.Machine

/-! ### The owner of an address -/

theorem regionOf_of_low {a : Nat} (h : a < 0x8000) : regionOf a = .cart a := if_pos h

theorem regionOf_of_window {a : Nat} (h : 0xA000 ≤ a) (h' : a < 0xC000) : regionOf a = .cart a := by
  unfold regionOf
  rw [if_neg (by omega), if_neg (by omega), if_pos h']

theorem regionOf_of_wram {a : Nat} (h : 0xC000 ≤ a) (h' : a < 0xE000) : regionOf a = .wram (a - 0xC000) := by
  unfold regionOf
  rw [if_neg (by omega), if_neg (by omega), if_neg (by omega), if_pos h']

theorem regionOf_of_mirror {a : Nat} (h : 0xE000 ≤ a) (h' : a < 0xFE00) : regionOf a = .wram (a - 0xE000) := by
  unfold regionOf
  rw [if_neg (by omega), if_neg (by omega), if_neg (by omega), if_neg (by omega), if_pos h']

/-- Video RAM, work RAM, OAM, high RAM and IE: a byte there is the last one written, and no access has a side effect. -/
def Region.isRam (r : Region) : Bool :=
  match r with
  | .vram _ | .wram _ | .oam _ | .hram _ | .ie => true
  | .cart _ | .io _ | .unmapped => false

theorem regionOf_isRam {a : Word} (h : (0x8000 ≤ a.toNat ∧ a.toNat < 0xA000) ∨ (0xC000 ≤ a.toNat ∧ a.toNat < 0xFEA0) ∨
    0xFF80 ≤ a.toNat) : (regionOf a.toNat).isRam = true := by
  have hat := regionOf_at a.isLt (rfl : regionOf a.toNat = _)
  revert hat
  cases regionOf a.toNat with
  | cart n => intro ⟨_, hr⟩; omega
  | io r => intro ⟨hr, _⟩; omega
  | unmapped => intro hr; simp only [Region.At] at hr; omega
  | _ => intro _; rfl

/-! ### A byte access by the owner -/

theorem Bus.readable_of_not_cart (b : Bus) {a : Word} (h : ∀ n, regionOf a.toNat ≠ .cart n) : b.readable a = true := by
  unfold Bus.readable
  split
  · rename_i hc
    exact absurd hc (h _)
  · rfl

theorem Bus.read_of_not_cart (b : Bus) {a : Word} (h : ∀ n, regionOf a.toNat ≠ .cart n) :
    b.read a = .ok (b.value a) (b.afterRead a) := if_pos (b.readable_of_not_cart h)

/-- An address of no cartridge whose read has no side effect (20_memory.md R62): neither unmapped nor a palette
register's. -/
def Region.isQuiet (r : Region) : Bool :=
  match r with
  | .cart _ | .unmapped | .io .bgp | .io .obp0 | .io .obp1 => false
  | _ => true

theorem Bus.read_quiet (b : Bus) {a : Word} (h : (regionOf a.toNat).isQuiet = true) : b.read a = .ok (b.value a) b := by
  have hb : b.afterRead a = b := by
    unfold Bus.afterRead
    split
    case h_5 => rfl
    all_goals
      rename_i hr
      rw [hr] at h
      cases h
  rw [b.read_of_not_cart (fun n hn => by rw [hn] at h; cases h), hb]

theorem Region.isQuiet_of_isRam {r : Region} (h : r.isRam = true) : r.isQuiet = true := by
  cases r with
  | io q => cases h
  | cart n => cases h
  | unmapped => cases h
  | _ => rfl

theorem Bus.read_ram (b : Bus) {a : Word} (h : (regionOf a.toNat).isRam = true) : b.read a = .ok (b.value a) b :=
  b.read_quiet (Region.isQuiet_of_isRam h)

/-- A write to RAM succeeds, and its byte is what the address then holds. -/
theorem Bus.write_ram (b : Bus) {a : Word} (v : Byte) (h : (regionOf a.toNat).isRam = true) :
    ∃ c, b.write a v = .ok () c ∧ c.value a = v := by
  unfold Bus.write Bus.value
  cases hr : regionOf a.toNat with
  | cart n => rw [hr] at h; cases h
  | io r => rw [hr] at h; cases h
  | unmapped => rw [hr] at h; cases h
  | ie => exact ⟨_, rfl, rfl⟩
  | _ o => exact ⟨_, rfl, Memory.read_write_self _ o v⟩

theorem Bus.read_wram (b : Bus) {a : Word} {o : Nat} (h : regionOf a.toNat = .wram o) :
    b.read a = .ok (b.wram.read o) b := by
  rw [b.read_ram (h ▸ rfl)]
  unfold Bus.value
  rw [h]

theorem Bus.write_wram (b : Bus) {a : Word} {o : Nat} (v : Byte) (h : regionOf a.toNat = .wram o) :
    b.write a v = .ok () { b with wram := b.wram.write o v } := by
  unfold Bus.write
  rw [h]

theorem Bus.read_unmapped (b : Bus) {a : Word} (h : regionOf a.toNat = .unmapped) :
    b.read a = .ok (Config.freeByte b.draws) { b with draws := b.draws + 1 } := by
  rw [b.read_of_not_cart (fun n hn => by rw [h] at hn; cases hn)]
  unfold Bus.value Bus.afterRead
  rw [h]

theorem Bus.write_unmapped (b : Bus) {a : Word} (v : Byte) (h : regionOf a.toNat = .unmapped) :
    b.write a v = .ok () b := by
  unfold Bus.write
  rw [h]

theorem Bus.read_io (b : Bus) {a : Word} {r : IoReg} (h : regionOf a.toNat = .io r) :
    b.read a = .ok (b.ioValue r) (b.afterRead a) := by
  rw [b.read_of_not_cart (fun n hn => by rw [h] at hn; cases hn)]
  unfold Bus.value
  rw [h]

theorem Bus.write_io (b : Bus) {a : Word} {r : IoReg} (v : Byte) (h : regionOf a.toNat = .io r) (hr : r ≠ .dma) :
    b.write a v = .ok () (b.ioWrite r v) := by
  unfold Bus.write
  rw [h]
  cases r with
  | dma => exact absurd rfl hr
  | _ => rfl

/-! ### Plain memory -/

/-- An address of the mirror has the owner and the offset of the address 0x2000 lower (20_memory.md R54). -/
theorem regionOf_mirror {a : Word} (h : 0xE000 ≤ a.toNat) (h' : a.toNat ≤ 0xFDFF) :
    regionOf a.toNat = .wram (a.toNat - 0xE000) ∧ regionOf (a - 0x2000).toNat = .wram (a.toNat - 0xE000) := by
  have hs : (a - 0x2000).toNat = a.toNat - 0x2000 := by bv_omega
  refine ⟨regionOf_of_mirror h (by omega), ?_⟩
  rw [hs, regionOf_of_wram (by omega) (by omega)]
  exact congrArg Region.wram (by omega)

/-- Settles O39: an address in these ranges is owned by RAM (`regionOf_isRam`), where `Bus.write_ram` and `Bus.read_ram`
say what an access does; both addresses of the mirror name the same byte of work RAM. -/
theorem plainMemory : Obligations.PlainMemory := by
  refine ⟨fun b a v h => ?_, fun b a v h h' => ?_⟩
  · have hram := regionOf_isRam h
    obtain ⟨c, hw, hv⟩ := b.write_ram v hram
    refine ⟨c, hw, (c.read_ram hram).trans (by rw [hv]), b.read_ram hram, fun x hx => ?_⟩
    have hp := b.peek_write a x v hx
    rwa [hw] at hp
  · obtain ⟨hm, hl⟩ := regionOf_mirror h h'
    exact ⟨(b.read_wram hm).trans (b.read_wram hl).symm, (b.write_wram v hm).trans (b.write_wram v hl).symm,
      b.read_wram hm⟩

/-! ### Unmapped addresses -/

theorem ioRegAt_of_ge {o : Nat} (h : 0x4C ≤ o) : ioRegAt o = none := by
  rw [ioRegAt, if_neg (by omega), Option.eq_none_iff_forall_ne_some]
  intro r hr
  have hm := Cells.mem_of_lookup hr
  have hlow : ∀ e ∈ ioRegsLow ++ ioRegsSound ++ ioRegsLcd, e.1 < 0x4C := by decide
  have := hlow _ hm
  omega

theorem regionOf_of_free {a : Nat} (h : 0xFEA0 ≤ a) (h' : a < 0xFF00) : regionOf a = .unmapped := by
  unfold regionOf
  rw [if_neg (by omega), if_neg (by omega), if_neg (by omega), if_neg (by omega), if_neg (by omega), if_neg (by omega),
    if_pos h']

theorem regionOf_of_high_io {a : Nat} (h : 0xFF4C ≤ a) (h' : a < 0xFF80) : regionOf a = .unmapped := by
  unfold regionOf
  rw [if_neg (by omega), if_neg (by omega), if_neg (by omega), if_neg (by omega), if_neg (by omega), if_neg (by omega),
    if_neg (by omega), if_pos h', ioRegAt_of_ge (by omega)]

/-- The gaps between the registers of 0xFF00 to 0xFF4B (10_state.md R39). -/
theorem regionOf_io_gap : ∀ n ∈ ([0xFF03, 0xFF08, 0xFF09, 0xFF0A, 0xFF0B, 0xFF0C, 0xFF0D, 0xFF0E, 0xFF15, 0xFF1F, 0xFF27,
    0xFF28, 0xFF29, 0xFF2A, 0xFF2B, 0xFF2C, 0xFF2D, 0xFF2E, 0xFF2F] : List Nat), regionOf n = .unmapped := by
  decide

/-- Settles O40: all three groups of addresses have no owner. -/
theorem unmappedAddresses : Obligations.UnmappedAddresses := by
  intro b a v h
  have hr : regionOf a.toNat = .unmapped := by
    rcases h with ⟨h, h'⟩ | h | ⟨h, h'⟩
    · exact regionOf_of_free h h'
    · exact regionOf_io_gap _ h
    · exact regionOf_of_high_io h h'
  exact ⟨b.read_unmapped hr, b.write_unmapped v hr⟩

/-! ### The registers -/

theorem regionOf_waveAddress (k : Fin 16) : regionOf (0xFF30 + BitVec.ofNat 16 k.val).toNat = .io (.wave k.val) := by
  revert k
  decide

/-- Settles O45: `Bus.read_quiet` at each register but the palettes, `Bus.value` being what the statement spells out. -/
theorem ioReads : Obligations.IoReads := by
  intro b
  refine ⟨b.read_quiet rfl, b.read_quiet rfl, b.read_quiet rfl, b.read_quiet rfl, b.read_io (r := .bgp) rfl,
    b.read_io (r := .obp0) rfl, b.read_io (r := .obp1) rfl, fun f => ?_, fun k => ?_⟩
  · revert f
    simp only [List.forall_mem_cons, List.not_mem_nil, false_implies, implies_true, and_true]
    and_intros <;> exact b.read_quiet rfl
  · have hk := regionOf_waveAddress k
    refine (b.read_quiet (hk ▸ rfl)).trans ?_
    unfold Bus.value
    rw [hk]
    rfl

/-- A write to `TAC` stores three bits, and a change of the period clears the accumulator (20_memory.md R76). -/
theorem Bus.writeTac_eq (b : Bus) (v : Byte) : b.writeTac v = { b with
    io := { b.io with tac := v.extractLsb' 0 3 }
    drv := { b.drv with timaAcc := if v.extractLsb' 0 2 = b.io.tac.extractLsb' 0 2 then b.drv.timaAcc else 0 } } := by
  unfold Bus.writeTac
  by_cases h : b.io.tac.extractLsb' 0 2 = v.extractLsb' 0 2
  · rw [if_pos h, if_pos h.symm]
  · rw [if_neg h, if_neg (Ne.symm h)]

/-- Settles O46: `Bus.write_io` at each register, whose effect `Bus.ioWrite` gives. -/
theorem ioWrites : Obligations.IoWrites := by
  intro b v
  exact ⟨b.write_io (r := .p1) v rfl nofun, b.write_io (r := .sb) v rfl nofun, b.write_io (r := .sc) v rfl nofun,
    b.write_io (r := .div) v rfl nofun, b.write_io (r := .tima) v rfl nofun, b.write_io (r := .tma) v rfl nofun,
    (b.write_io (r := .tac) v rfl nofun).trans (congrArg (Access.ok ()) (b.writeTac_eq v)),
    b.write_io (r := .scy) v rfl nofun, b.write_io (r := .scx) v rfl nofun, b.write_io (r := .ly) v rfl nofun,
    b.write_io (r := .lyc) v rfl nofun, b.write_io (r := .bgp) v rfl nofun, b.write_io (r := .obp0) v rfl nofun,
    b.write_io (r := .obp1) v rfl nofun, b.write_io (r := .wy) v rfl nofun, b.write_io (r := .wx) v rfl nofun, rfl⟩

/-- A write to `LCDC` sets the background and window dirty flags where bit 6, 4 or 3 changes (20_memory.md R70). -/
theorem lcdcBanksChange_eq (old new : Byte) : lcdcBanksChange old new =
    (new.getLsbD 6 != old.getLsbD 6 || new.getLsbD 4 != old.getLsbD 4 || new.getLsbD 3 != old.getLsbD 3) := by
  unfold lcdcBanksChange
  rw [bne_comm (a := old.getLsbD 6), bne_comm (a := old.getLsbD 4), bne_comm (a := old.getLsbD 3)]

theorem Bus.written_of_ok {b c : Bus} {a : Word} {v : Byte} (h : b.write a v = .ok () c) : b.written a v = c := by
  rw [b.written_eq_after, h]
  rfl

/-- Settles O47: `Bus.write_io` and the store of IE; the pending sources are read from the written bus. -/
theorem lcdAndInterruptWrites : Obligations.LcdAndInterruptWrites := by
  intro b v change
  have hifl := b.write_io (r := .ifl) (a := 0xFF0F) v rfl nofun
  have hie : b.write 0xFFFF v = .ok () { b with io := { b.io with ie := v } } := rfl
  refine ⟨(b.write_io (r := .lcdc) v rfl nofun).trans (congrArg (Access.ok ()) ?_),
    b.write_io (r := .stat) v rfl nofun, hifl, hie, ?_, ?_⟩
  · show b.writeLcdc v = _
    unfold Bus.writeLcdc
    rw [lcdcBanksChange_eq]
    rfl
  · rw [Bus.written_of_ok hifl]
    rfl
  · rw [Bus.written_of_ok hie]
    rfl

end Sys2Proof.Machine
end

section
/-! PROOFS. The cartridge behind the dispatcher (20_memory.md R90 to R110): reads through its target, control writes,
the external window. -/

namespace Sys2Proof.Machine

/-! ### A delegated read, by what the controller makes of the address -/

section
variable (b : Bus) {a : Word} (ha : regionOf a.toNat = .cart a.toNat)
include ha

theorem Bus.read_cart :
    b.read a = if b.cart.readable a.toNat then .ok (b.cart.value a.toNat) b else .fatal a b := by
  unfold Bus.read Bus.readable Bus.value Bus.afterRead
  rw [ha]

theorem Bus.read_of_target (ht : b.cart.target a.toNat ≠ .fatal) : b.read a = .ok (b.cart.value a.toNat) b := by
  rw [b.read_cart ha, Cartridge.readable, if_pos (decide_eq_true ht)]

theorem Bus.read_of_target_fatal (ht : b.cart.target a.toNat = .fatal) : b.read a = .fatal a b := by
  rw [b.read_cart ha, Cartridge.readable, ht]
  rfl

theorem Bus.write_cart (v : Byte) : b.write a v = b.writeCart a v := by
  unfold Bus.write
  rw [ha]

end

/-! ### The ROM windows -/

/-- The bank in window 1 as R99 composes it: the two upper bits in front of the five lower ones. -/
theorem Controller.romBankEff_bank1 (st : Bank1) : (Controller.bank1 st).romBankEff =
    if st.bankMode then st.low5.toNat else (st.hi2 ++ st.low5).toNat := by
  have happ : (st.hi2 ++ st.low5).toNat = st.hi2.toNat * 32 + st.low5.toNat := by
    rw [BitVec.toNat_append, ← Nat.shiftLeft_add_eq_or_of_lt st.low5.isLt, Nat.shiftLeft_eq]
  rw [happ]
  rfl

theorem Bus.read_rom (b : Bus) {a : Word} {o : Nat} (ha : regionOf a.toNat = .cart a.toNat)
    (ht : b.cart.target a.toNat = b.cart.romTarget o) :
    b.read a = if o < b.cart.romLen then .ok (b.cart.rom.read o) b else .fatal a b := by
  unfold Cartridge.romTarget at ht
  split
  · rename_i ho
    rw [if_pos ho] at ht
    rw [b.read_of_target ha (by rw [ht]; nofun), Cartridge.value, ht]
  · rename_i ho
    rw [if_neg ho] at ht
    exact b.read_of_target_fatal ha ht

/-- Settles O41: both windows are offsets into the image (`Bus.read_rom`), in the second one of the effective bank. -/
theorem cartridgeWindows : Obligations.CartridgeWindows := by
  intro b a h bank offset
  have hbank : b.cart.ctl.romBankEff = bank := by
    show _ = match b.cart.ctl with | .plain => _ | .bank1 st => _ | .bank2 st => _ | .bank3 st => _
    cases b.cart.ctl with
    | bank1 st => exact Controller.romBankEff_bank1 st
    | _ => rfl
  refine b.read_rom (regionOf_of_low h) ?_
  show _ = b.cart.romTarget (if a.toNat < 0x4000 then _ else _)
  unfold Cartridge.target
  rw [hbank, if_pos h]
  exact (apply_ite b.cart.romTarget _ _ _).symm

/-! ### Control writes -/

/-- A write below 0x8000 succeeds and changes the controller's registers alone, but for the draw of a clock snapshot. -/
theorem Bus.write_low (b : Bus) {a : Word} (v : Byte) (h : a.toNat < 0x8000) : b.write a v = .ok () { b with
    cart := { b.cart with ctl := b.cart.ctl.control a.toNat v (rtcNow b.draws) }
    draws := if b.cart.latches a.toNat v then b.draws + 1 else b.draws } := by
  have hw : b.cart.writable a.toNat = true := by
    unfold Cartridge.writable
    rw [decide_eq_true h]
    rfl
  rw [b.write_cart (regionOf_of_low h), Bus.writeCart, if_pos hw, Cartridge.write, if_pos h]

/-- The clock readings are in the ranges of R109. -/
theorem rtcNow_ranges (n : Nat) :
    (rtcNow n).seconds.toNat < 60 ∧ (rtcNow n).minutes.toNat < 60 ∧ (rtcNow n).hours.toNat < 24 := by
  have hs := (Config.rtcSeconds n).isLt
  have hm := (Config.rtcMinutes n).isLt
  have hh := (Config.rtcHours n).isLt
  unfold rtcNow
  simp only [BitVec.toNat_ofNat]
  omega

section
variable {st : Bank3} {a : Nat} {v : Byte} {now : Rtc}

theorem Bank3.latches_of_lt (h : a < 0x6000) : st.latches a v = false := by
  unfold Bank3.latches
  rw [decide_eq_false (by omega)]
  rfl

theorem Bank3.latches_of_not (h : ¬(st.latchReg = 0x00 ∧ v = 0x01)) : st.latches a v = false := by
  unfold Bank3.latches
  rw [Bool.and_assoc, ← Bool.decide_and, decide_eq_false h, Bool.and_false]

theorem Bank3.latches_of_edge (h : 0x6000 ≤ a) (hl : st.latchReg = 0x00) (hv : v = 0x01) : st.latches a v = true := by
  unfold Bank3.latches
  rw [decide_eq_true h, decide_eq_true hl, decide_eq_true hv]
  rfl

theorem Bank3.control_enable (h : a < 0x2000) :
    st.control a v now = { st with ramEnable := decide (v.extractLsb' 0 4 = 0xA#4) } := if_pos h

theorem Bank3.control_romBank (h : 0x2000 ≤ a) (h' : a < 0x4000) :
    st.control a v now = { st with romBank := if v.extractLsb' 0 7 = 0 then 1 else v.extractLsb' 0 7 } := by
  rw [Bank3.control, if_neg (by omega), if_pos h']

theorem Bank3.control_ramBank (h : 0x4000 ≤ a) (h' : a < 0x6000) : st.control a v now = { st with ramBank := v } := by
  rw [Bank3.control, if_neg (by omega), if_neg (by omega), if_pos h']

theorem Bank3.control_latch (h : 0x6000 ≤ a) : st.control a v now =
    { st with rtc := if st.latches a v then now else st.rtc, latchReg := v } := by
  rw [Bank3.control, if_neg (by omega), if_neg (by omega), if_neg (by omega)]

end

/-- Settles O42: `Bus.write_low`, then the registers of each variant. -/
theorem controlRegisters : Obligations.ControlRegisters := by
  refine ⟨fun b a v h => ⟨fun hp => ?_, fun st hst => ?_, fun st hst => ?_⟩, fun b a v st h hst => ?_⟩
  · rw [b.write_low v h, Cartridge.latches, hp]
    show Access.ok () { b with cart := { b.cart with ctl := .plain } } = _
    rw [← hp]
  · rw [b.write_low v h, Cartridge.latches, hst]
    rfl
  · rw [b.write_low v h, Cartridge.latches, hst]
    rfl
  · have hl : b.cart.latches a.toNat v = st.latches a.toNat v := by
      rw [Cartridge.latches, hst]
      simp only [decide_eq_true h, Bool.true_and]
    refine ⟨st.control a.toNat v (rtcNow b.draws), if st.latches a.toNat v then b.draws + 1 else b.draws, ?_, ?_, ?_, ?_,
      ?_, ?_⟩
    · rw [b.write_low v h, hl, hst]
      rfl
    · intro h1
      rw [Bank3.latches_of_lt (by omega)]
      exact ⟨Bank3.control_enable h1, rfl⟩
    · intro h1 h2
      rw [Bank3.latches_of_lt (by omega)]
      exact ⟨Bank3.control_romBank h1 h2, rfl⟩
    · intro h1 h2
      rw [Bank3.latches_of_lt (by omega)]
      exact ⟨Bank3.control_ramBank h1 h2, rfl⟩
    · intro h1 hn
      rw [Bank3.control_latch h1, Bank3.latches_of_not hn]
      exact ⟨rfl, rfl⟩
    · intro h1 hr hv
      rw [Bank3.control_latch h1, Bank3.latches_of_edge h1 hr hv, hv]
      exact ⟨rfl, rtcNow_ranges b.draws⟩

/-! ### The external window -/

/-- No write above 0x8000 takes a clock snapshot. -/
theorem Cartridge.latches_of_high (c : Cartridge) {a : Nat} (v : Byte) (h : 0x8000 ≤ a) : c.latches a v = false := by
  unfold Cartridge.latches
  split
  · rw [decide_eq_false (by omega)]
    rfl
  · rfl

section
variable (b : Bus) {a : Word} (v : Byte) (h : 0xA000 ≤ a.toNat) (h' : a.toNat < 0xC000)
include h h'

theorem Bus.target_window : b.cart.target a.toNat = b.cart.ctl.windowTarget (a.toNat - 0xA000) :=
  b.cart.target_high (by omega)

/-- A write to the window, where the controller does not refuse it, changes the cartridge alone. -/
theorem Bus.write_window (hw : b.cart.ctl = .plain ∨ b.cart.ctl.windowTarget (a.toNat - 0xA000) ≠ .fatal) :
    b.write a v = .ok () { b with cart := b.cart.write a.toNat v (rtcNow b.draws) } := by
  have hw : b.cart.writable a.toNat = true := by
    unfold Cartridge.writable Cartridge.readable
    rw [b.target_window h h', Bool.or_assoc, ← Bool.decide_or, decide_eq_true hw, Bool.or_true]
  rw [b.write_cart (regionOf_of_window h h'), Bus.writeCart, if_pos hw, b.cart.latches_of_high v (by omega)]
  rfl

theorem Bus.window_fatal (hp : b.cart.ctl ≠ .plain) (ht : b.cart.ctl.windowTarget (a.toNat - 0xA000) = .fatal) :
    b.read a = .fatal a b ∧ b.write a v = .fatal a b := by
  have htarget := (b.target_window h h').trans ht
  refine ⟨b.read_of_target_fatal (regionOf_of_window h h') htarget, ?_⟩
  have hw : b.cart.writable a.toNat = false := by
    unfold Cartridge.writable Cartridge.readable
    rw [htarget, decide_eq_false (by omega), decide_eq_false hp]
    rfl
  rw [b.write_cart (regionOf_of_window h h'), Bus.writeCart, hw]
  rfl

theorem Bus.window_ram {k : Nat} (ht : b.cart.ctl.windowTarget (a.toNat - 0xA000) = .ram k) :
    b.read a = .ok (b.cart.ctl.ramByte (b.cart.xram.read k)) b ∧
    b.write a v = .ok () { b with cart := { b.cart with xram := b.cart.xram.write k (b.cart.ctl.ramByte v) } } := by
  have htarget := (b.target_window h h').trans ht
  refine ⟨?_, ?_⟩
  · rw [b.read_of_target (regionOf_of_window h h') (by rw [htarget]; nofun), Cartridge.value, htarget]
  · rw [b.write_window v h h' (.inr (by rw [ht]; nofun)), Cartridge.write, if_neg (by omega), ht]

/-- Plain has no external RAM: a read is refused, a write ignored (20_memory.md R95). -/
theorem Bus.window_plain (hp : b.cart.ctl = .plain) : b.read a = .fatal a b ∧ b.write a v = .ok () b := by
  refine ⟨b.read_of_target_fatal (regionOf_of_window h h') ((b.target_window h h').trans (by rw [hp]; rfl)), ?_⟩
  rw [b.write_window v h h' (.inl hp), Cartridge.write, if_neg (by omega), hp]
  rfl

theorem Bus.window_disabled (ht : b.cart.ctl.windowTarget (a.toNat - 0xA000) = .disabled) :
    b.read a = .ok 0xFF b ∧ b.write a v = .ok () b := by
  have htarget := (b.target_window h h').trans ht
  refine ⟨?_, ?_⟩
  · rw [b.read_of_target (regionOf_of_window h h') (by rw [htarget]; nofun), Cartridge.value, htarget]
  · rw [b.write_window v h h' (.inr (by rw [ht]; nofun)), Cartridge.write, if_neg (by omega), ht]

theorem Bus.window_rtc {st : Bank3} {i : Nat} (hst : b.cart.ctl = .bank3 st)
    (ht : b.cart.ctl.windowTarget (a.toNat - 0xA000) = .rtc i) : b.read a = .ok (st.rtc.get i) b ∧
    b.write a v = .ok () { b with cart := { b.cart with ctl := .bank3 { st with rtc := st.rtc.set i v } } } := by
  have htarget := (b.target_window h h').trans ht
  refine ⟨?_, ?_⟩
  · rw [b.read_of_target (regionOf_of_window h h') (by rw [htarget]; nofun), Cartridge.value, htarget, hst]
  · rw [b.write_window v h h' (.inr (by rw [ht]; nofun)), Cartridge.write, if_neg (by omega), ht, hst]

/-- `Bus.window_ram` for the variants that keep the whole byte; variant 2 keeps the low nibble (20_memory.md R104). -/
theorem Bus.window_ram_whole {k : Nat} (ht : b.cart.ctl.windowTarget (a.toNat - 0xA000) = .ram k)
    (hb : ∀ w, b.cart.ctl.ramByte w = w) : b.read a = .ok (b.cart.xram.read k) b ∧
    b.write a v = .ok () { b with cart := { b.cart with xram := b.cart.xram.write k v } } := by
  have hram := b.window_ram v h h' ht
  rwa [hb, hb] at hram

end

/-! ### What variant 3 makes of its window (20_memory.md R110) -/

section
variable {st : Bank3} (o : Nat)

theorem Bank3.windowTarget_disabled (he : st.ramEnable = false) : st.windowTarget o = .disabled := by
  rw [Bank3.windowTarget, he]
  rfl

variable (he : st.ramEnable = true)
include he

theorem Bank3.windowTarget_ram (hb : st.ramBank.toNat < 4) :
    st.windowTarget o = .ram (st.ramBank.toNat * 0x2000 + o) := by
  rw [Bank3.windowTarget, if_pos he, if_pos hb]

theorem Bank3.windowTarget_rtc (hb : 8 ≤ st.ramBank.toNat) (hb' : st.ramBank.toNat ≤ 12) :
    st.windowTarget o = .rtc (st.ramBank.toNat - 8) := by
  rw [Bank3.windowTarget, if_pos he, if_neg (by omega), if_pos ⟨hb, hb'⟩]

theorem Bank3.windowTarget_fatal (hb : (4 ≤ st.ramBank.toNat ∧ st.ramBank.toNat < 8) ∨ 12 < st.ramBank.toNat) :
    st.windowTarget o = .fatal := by
  rw [Bank3.windowTarget, if_pos he, if_neg (by omega), if_neg (by omega)]

end

/-- Settles O43: what the controller makes of an offset in the window, then what an access does with such a target. -/
theorem externalWindow : Obligations.ExternalWindow := by
  intro b a v h h' o ram
  refine ⟨b.window_plain v h h', fun st hst => ?bank1, fun st hst => ⟨fun ho => ?low, fun ho => ?past⟩,
    fun st hst => ⟨fun he => ?disabled, fun he hb => ?ram, fun he hb hb' => ?rtc, fun he hb => ?other⟩⟩
  case bank1 =>
    exact b.window_ram_whole v h h' (by rw [hst, Controller.windowTarget, Bank1.ramBankEff]) (fun _ => by rw [hst]; rfl)
  case low =>
    have hram := b.window_ram v h h' (by rw [hst, Controller.windowTarget, if_pos ho])
    rwa [hst] at hram
  case past =>
    exact b.window_fatal v h h' (by rw [hst]; nofun) (by rw [hst, Controller.windowTarget, if_neg (by omega)])
  case disabled =>
    exact b.window_disabled v h h' (by rw [hst]; exact Bank3.windowTarget_disabled o he)
  case ram =>
    exact b.window_ram_whole v h h' (by rw [hst]; exact Bank3.windowTarget_ram o he hb) (fun _ => by rw [hst]; rfl)
  case rtc =>
    exact b.window_rtc v h h' hst (by rw [hst]; exact Bank3.windowTarget_rtc o he hb hb')
  case other =>
    exact b.window_fatal v h h' (by rw [hst]; nofun) (by rw [hst]; exact Bank3.windowTarget_fatal o he hb)

end Sys2Proof.Machine
end

section
/-! PROOFS. The OAM DMA copy (20_memory.md R72): the entries it fills, and what its reads leave behind. -/

namespace Sys2Proof.Machine

/-! ### The source addresses -/

theorem word_toNat (h l : Byte) : (word h l).toNat = 256 * h.toNat + l.toNat := by
  unfold word
  rw [BitVec.toNat_append, ← Nat.shiftLeft_add_eq_or_of_lt l.isLt, Nat.shiftLeft_eq]
  omega

theorem dmaSource_toNat (v : Byte) {k : Nat} (h : k < 160) : (dmaSource v k).toNat = 256 * v.toNat + k := by
  have hv := v.isLt
  rw [dmaSource, BitVec.toNat_add, word_toNat, BitVec.toNat_ofNat, show (0 : Byte).toNat = 0 from rfl]
  omega

theorem word_eq_dmaSource (v : Byte) {k : Nat} (h : k < 160) : word v (BitVec.ofNat 8 k) = dmaSource v k := by
  apply BitVec.eq_of_toNat_eq
  rw [dmaSource_toNat v h, word_toNat, BitVec.toNat_ofNat]
  omega

/-- A source byte that lies in OAM is the entry it is copied to. -/
theorem dmaSource_oam {v : Byte} {k o : Nat} (h : k < 160) (hr : regionOf (dmaSource v k).toNat = .oam o) : o = k := by
  obtain ⟨ha, ho⟩ := regionOf_oam hr
  rw [dmaSource_toNat v h] at ha
  omega

/-- The 160 bytes of a page up to 0xFE lie below the registers and the unmapped addresses. -/
theorem dmaSource_ne_io {v : Byte} {k : Nat} (hv : v.toNat ≤ 0xFE) (h : k < 160) (r : IoReg) :
    regionOf (dmaSource v k).toNat ≠ .io r := by
  intro hr
  obtain ⟨hio, _⟩ := regionOf_io hr
  rw [dmaSource_toNat v h] at hio
  omega

theorem dmaSource_ne_unmapped {v : Byte} {k : Nat} (hv : v.toNat ≤ 0xFE) (h : k < 160) :
    regionOf (dmaSource v k).toNat ≠ .unmapped := by
  intro hr
  have hat : 0xFEA0 ≤ (dmaSource v k).toNat ∧ _ := regionOf_at (dmaSource v k).isLt hr
  rw [dmaSource_toNat v h] at hat
  omega

/-! ### What the copy's reads leave behind -/

/-- The bus after the reads of the first `n` source bytes, without the stores. -/
def Bus.afterReads (v : Byte) (n : Nat) (b : Bus) : Bus :=
  match n with
  | 0 => b
  | n + 1 => (Bus.afterReads v n b).afterRead (dmaSource v n)

/-- The owners of the first `n` source bytes. -/
def dmaRegions (v : Byte) (n : Nat) : List Region := (List.range n).map fun k => regionOf (dmaSource v k).toNat

theorem dmaRegions_add (v : Byte) (m n : Nat) : dmaRegions v (m + n) =
    dmaRegions v m ++ (List.range n).map fun k => regionOf (dmaSource v (m + k)).toNat := by
  simp only [dmaRegions, List.range_add, List.map_append, List.map_map, Function.comp_def]

/-- A read changes caches by the palette registers alone, and draws at an address without an owner (20_memory.md R62). -/
theorem Bus.afterRead_eq (b : Bus) (a : Word) : b.afterRead a = { b with
    caches := {
      bg := if regionOf a.toNat = .io .bgp then [] else b.caches.bg
      window := if regionOf a.toNat = .io .bgp then [] else b.caches.window
      sprite := if regionOf a.toNat = .io .obp0 ∨ regionOf a.toNat = .io .obp1 then [] else b.caches.sprite }
    draws := b.draws + if regionOf a.toNat = .unmapped then 1 else 0 } := by
  unfold Bus.afterRead
  cases regionOf a.toNat with
  | io r => cases r <;> rfl
  | _ => rfl

theorem Bus.afterReads_eq (v : Byte) (n : Nat) (b : Bus) : b.afterReads v n = { b with
    caches := {
      bg := if .io .bgp ∈ dmaRegions v n then [] else b.caches.bg
      window := if .io .bgp ∈ dmaRegions v n then [] else b.caches.window
      sprite := if .io .obp0 ∈ dmaRegions v n ∨ .io .obp1 ∈ dmaRegions v n then [] else b.caches.sprite }
    draws := b.draws + (dmaRegions v n).count .unmapped } := by
  induction n with
  | zero => rfl
  | succ n ih =>
    have hs : dmaRegions v (n + 1) = dmaRegions v n ++ [regionOf (dmaSource v n).toNat] := dmaRegions_add v n 1
    rw [Bus.afterReads, Bus.afterRead_eq, ih, hs]
    generalize regionOf (dmaSource v n).toNat = r
    generalize dmaRegions v n = rs
    simp only [List.mem_append, List.mem_singleton, List.count_append, List.count_singleton, eq_comm]
    grind

/-! ### The copy -/

/-- A byte that has an owner reads the same whatever the caches and the draws, and where OAM holds it as before. -/
theorem Bus.value_of_agree (b : Bus) (m : Memory) (c : TileCaches) (d : Nat) {a : Word}
    (hu : regionOf a.toNat ≠ .unmapped) (ho : ∀ o, regionOf a.toNat = .oam o → m.read o = b.oam.read o) :
    { b with oam := m, caches := c, draws := d }.value a = b.value a := by
  unfold Bus.value
  cases hr : regionOf a.toNat with
  | oam o => exact ho o hr
  | unmapped => exact absurd hr hu
  | _ => rfl

theorem Bus.afterRead_setOam (b : Bus) (m : Memory) (a : Word) :
    { b with oam := m }.afterRead a = { b.afterRead a with oam := m } := by
  rw [Bus.afterRead_eq, Bus.afterRead_eq]

theorem dmaCopy_of_ok {v : Byte} {n m i : Nat} {b c : Bus} (h : Bus.dmaCopy v n i b = .ok () c) :
    Bus.dmaCopy v (n + m) i b = Bus.dmaCopy v m (i + n) c := by
  induction n generalizing i b with
  | zero =>
    cases h
    rw [Nat.zero_add, Nat.add_zero]
  | succ n ih =>
    rw [Nat.succ_add, Bus.dmaCopy]
    rw [Bus.dmaCopy] at h
    split at h
    · rw [Nat.add_comm n 1, ← Nat.add_assoc, ← ih h]
    · cases h

/-- The copy of one byte. -/
theorem dmaCopy_succ_of_readable {v : Byte} {n i : Nat} {b : Bus} (h : b.readable (dmaSource v i) = true) :
    Bus.dmaCopy v (n + 1) i b = Bus.dmaCopy v n (i + 1) { b.afterRead (dmaSource v i) with
      oam := (b.afterRead (dmaSource v i)).oam.write i (b.value (dmaSource v i)) } := by
  rw [Bus.dmaCopy, Bus.read, if_pos h]

theorem dmaCopy_succ_of_refused {v : Byte} {n i : Nat} {b : Bus} (h : b.readable (dmaSource v i) = false) :
    Bus.dmaCopy v (n + 1) i b = .fatal (dmaSource v i) b := by
  rw [Bus.dmaCopy, Bus.read, h]
  rfl

/-- The first `n` bytes, none of them refused: the reads' side effects, and the entries below `n` as their sources read
before the copy. -/
theorem dmaCopy_prefix (v : Byte) (b : Bus) (n : Nat) (hn : n ≤ 160)
    (hread : ∀ k, k < n → b.readable (dmaSource v k) = true) :
    ∃ m, Bus.dmaCopy v n 0 b = .ok () { b.afterReads v n with oam := m } ∧
      (∀ k, k < n → regionOf (dmaSource v k).toNat ≠ .unmapped → m.read k = b.value (dmaSource v k)) ∧
      ∀ k, n ≤ k → m.read k = b.oam.read k := by
  induction n with
  | zero => exact ⟨b.oam, rfl, fun k hk => absurd hk (Nat.not_lt_zero k), fun _ _ => rfl⟩
  | succ n ih =>
    obtain ⟨m, hcopy, hcopied, hrest⟩ := ih (by omega) (fun k hk => hread k (by omega))
    have hr : { b.afterReads v n with oam := m }.readable (dmaSource v n) = true := by
      rw [b.afterReads_eq]
      exact hread n (by omega)
    have hv (hu : regionOf (dmaSource v n).toNat ≠ .unmapped) :
        { b.afterReads v n with oam := m }.value (dmaSource v n) = b.value (dmaSource v n) := by
      rw [b.afterReads_eq]
      refine b.value_of_agree m _ _ hu fun o ho => ?_
      rw [dmaSource_oam (by omega) ho]
      exact hrest n (Nat.le_refl n)
    refine ⟨m.write n ({ b.afterReads v n with oam := m }.value (dmaSource v n)), ?_, fun k hk hu => ?_, fun k hk => ?_⟩
    · rw [dmaCopy_of_ok hcopy, Nat.zero_add, dmaCopy_succ_of_readable hr, Bus.afterRead_setOam]
      rfl
    · by_cases e : k = n
      · subst e
        rw [Memory.read_write_self, hv hu]
      · rw [Memory.read_write_of_ne _ _ e]
        exact hcopied k (by omega) hu
    · rw [Memory.read_write_of_ne _ _ (by omega)]
      exact hrest k (by omega)

/-- From a page up to 0xFE the reads leave nothing behind. -/
theorem Bus.afterReads_of_plain_page (v : Byte) (hv : v.toNat ≤ 0xFE) (b : Bus) (n : Nat) (hn : n ≤ 160) :
    b.afterReads v n = b := by
  induction n with
  | zero => rfl
  | succ n ih =>
    rw [Bus.afterReads, ih (by omega), Bus.afterRead]
    cases hr : regionOf (dmaSource v n).toNat with
    | io r => exact absurd hr (dmaSource_ne_io hv (by omega) r)
    | unmapped => exact absurd hr (dmaSource_ne_unmapped hv (by omega))
    | _ => rfl

/-- Page 0xFF has 23 addresses without an owner up to 0xFF4F and 48 from there to high RAM. -/
theorem count_unmapped_dmaRegions_high : (dmaRegions 0xFF 160).count .unmapped = 71 := by
  have hsplit := dmaRegions_add 0xFF 80 80
  have hlow : (dmaRegions 0xFF 80).count .unmapped = 23 := by decide
  have hhigh : ((List.range 80).map fun k => regionOf (dmaSource 0xFF (80 + k)).toNat).count .unmapped = 48 := by decide
  rw [show 160 = 80 + 80 from rfl, hsplit, List.count_append, hlow, hhigh]

/-- From page 0xFF the reads set every dirty flag, by the three palette registers, and take 71 draws. -/
theorem Bus.afterReads_of_high_page (b : Bus) : b.afterReads 0xFF 160 = { b with
    caches := { bg := [], window := [], sprite := [] }, draws := b.draws + 71 } := by
  have hbgp : .io .bgp ∈ dmaRegions 0xFF 160 := List.mem_map.mpr ⟨0x47, List.mem_range.mpr (by decide), rfl⟩
  have hobp : .io .obp0 ∈ dmaRegions 0xFF 160 := List.mem_map.mpr ⟨0x48, List.mem_range.mpr (by decide), rfl⟩
  rw [b.afterReads_eq, if_pos hbgp, if_pos hbgp, if_pos (.inl hobp), count_unmapped_dmaRegions_high]

/-- A write to `DMA` stores the page, then copies (20_memory.md R72). -/
theorem Bus.write_dma (b : Bus) (v : Byte) :
    b.write 0xFF46 v = Bus.dmaCopy v 160 0 { b with io := { b.io with dma := v } } := rfl

/-- Bytes of a page up to 0xFE do not depend on the page stored in `DMA`. -/
theorem Bus.value_setDma (b : Bus) {v : Byte} {k : Nat} (hv : v.toNat ≤ 0xFE) (hk : k < 160) :
    { b with io := { b.io with dma := v } }.value (dmaSource v k) = b.value (dmaSource v k) := by
  unfold Bus.value
  cases hr : regionOf (dmaSource v k).toNat with
  | io r => exact absurd hr (dmaSource_ne_io hv hk r)
  | _ => rfl

/-- Only the cartridge refuses a byte, and no page above 0xFE is in it. -/
theorem page_of_refused {b : Bus} {v : Byte} {k : Nat} (hk : k < 160) (h : b.readable (dmaSource v k) = false) :
    v.toNat ≤ 0xFE := by
  refine Nat.le_of_not_lt fun hv => ?_
  have ha := dmaSource_toNat v hk
  rw [b.readable_of_high (by omega)] at h
  cases h

/-- Settles O49: `dmaCopy_prefix` for the bytes that are not refused; then what the reads leave behind by page, or the
refused byte. -/
theorem oamDma : Obligations.OamDma := by
  intro b v source started
  have hsource {k : Nat} (hk : k < 160) : source k = dmaSource v k := word_eq_dmaSource v hk
  refine ⟨fun hv hread => ?_, fun n hn hread hrefused => ?_, fun hv => ?_⟩
  · obtain ⟨m, hcopy, hcopied, _⟩ := dmaCopy_prefix v started 160 (Nat.le_refl _)
      fun k hk => hsource hk ▸ hread k hk
    rw [started.afterReads_of_plain_page v hv 160 (Nat.le_refl _)] at hcopy
    refine ⟨{ started with oam := m }, (b.write_dma v).trans hcopy, rfl, fun k hk => ?_⟩
    rw [hsource hk]
    exact (hcopied k hk (dmaSource_ne_unmapped hv hk)).trans (b.value_setDma hv hk)
  · rw [hsource hn] at hrefused ⊢
    have hv := page_of_refused hn hrefused
    obtain ⟨m, hcopy, hcopied, hrest⟩ := dmaCopy_prefix v started n (by omega)
      fun k hk => hsource (show k < 160 by omega) ▸ hread k hk
    rw [started.afterReads_of_plain_page v hv n (by omega)] at hcopy
    have hstop : Bus.dmaCopy v 160 0 started = .fatal (dmaSource v n) { started with oam := m } := by
      rw [show 160 = n + (159 - n + 1) by omega, dmaCopy_of_ok hcopy, Nat.zero_add]
      exact dmaCopy_succ_of_refused hrefused
    refine ⟨{ started with oam := m }, (b.write_dma v).trans hstop, rfl, fun k hk => ?_, hrest⟩
    rw [hsource (by omega)]
    exact (hcopied k hk (dmaSource_ne_unmapped hv (by omega))).trans (b.value_setDma hv (by omega))
  · subst hv
    obtain ⟨m, hcopy, hcopied, _⟩ := dmaCopy_prefix 0xFF started 160 (Nat.le_refl _) fun k hk =>
      started.readable_of_high (by rw [dmaSource_toNat _ hk, show (0xFF : Byte).toNat = 255 from rfl]; omega)
    rw [started.afterReads_of_high_page] at hcopy
    refine ⟨_, (b.write_dma 0xFF).trans hcopy, rfl, fun k hk hu => ?_⟩
    rw [hsource hk] at hu ⊢
    exact hcopied k hk hu

end Sys2Proof.Machine
end

section
/-! PROOFS. Construction (20_memory.md R92, R116; 60_exceptions.md R339): which images give a machine, and that it keeps the
invariant. -/

namespace Sys2Proof.Machine

/-! ### Which images are accepted -/

/-- The cartridge types of 20_memory.md R92. -/
def knownTypes : List Nat := [0x00, 0x01, 0x02, 0x03, 0x05, 0x06, 0x0F, 0x10, 0x11, 0x12, 0x13]

theorem Controller.ofType_isSome (r : Reset) (t : Byte) : (Controller.ofType r t).isSome = true ↔ t.toNat ∈ knownTypes := by
  unfold Controller.ofType
  generalize t.toNat = n
  split <;> simp_all [knownTypes]

theorem Controller.ofType_eq_some {r : Reset} {t : Byte} {c : Controller} (h : Controller.ofType r t = some c) :
    c = .plain ∨ c = .bank1 r.bank1 ∨ c = .bank2 r.bank2 ∨ c = .bank3 r.bank3 := by
  unfold Controller.ofType at h
  split at h <;> cases h <;> simp

/-- The controller that a type byte selects starts with legal bank numbers, as the reset record has them. -/
theorem Controller.ofType_banksLegal {r : Reset} {t : Byte} {c : Controller} (h1 : r.bank1.low5 ≠ 0)
    (h3 : r.bank3.romBank ≠ 0) (h : Controller.ofType r t = some c) : c.banksLegal = true := by
  rcases Controller.ofType_eq_some h with rfl | rfl | rfl | rfl
  · rfl
  · exact decide_eq_true h1
  · rfl
  · exact decide_eq_true h3

/-- What makes an image well formed (20_memory.md R116). -/
def wellFormedImage (image : List Byte) : Prop :=
  0x8000 ≤ image.length ∧ image.length % 0x4000 = 0 ∧ (image.getD 0x0147 0).toNat ∈ knownTypes

theorem romType (image : List Byte) : (Memory.ofBytes 0 image).read 0x0147 = image.getD 0x0147 0 :=
  Memory.read_ofBytes image 0 0x0147

/-- An accepted image gives the controller that its type byte selects, the image's bytes and the saved ones. -/
theorem Cartridge.ofImage_eq_some (r : Reset) {image : List Byte} (saved : Option (List Byte)) (h : wellFormedImage image) :
    ∃ ctl, Controller.ofType r (image.getD 0x0147 0) = some ctl ∧ Cartridge.ofImage r image saved =
      some { ctl := ctl, rom := Memory.ofBytes 0 image, romLen := image.length, xram := ctl.restore saved } := by
  obtain ⟨hlen, hmul, htype⟩ := h
  obtain ⟨ctl, hctl⟩ := Option.isSome_iff_exists.mp ((Controller.ofType_isSome r _).mpr htype)
  refine ⟨ctl, hctl, ?_⟩
  unfold Cartridge.ofImage
  rw [if_neg (by omega)]
  simp only [romType, hctl]

theorem Cartridge.ofImage_eq_none (r : Reset) {image : List Byte} (saved : Option (List Byte))
    (h : ¬wellFormedImage image) : Cartridge.ofImage r image saved = none := by
  unfold Cartridge.ofImage
  split
  · rfl
  · rename_i hsize
    have htype : Controller.ofType r (image.getD 0x0147 0) = none := by
      rw [← Option.not_isSome_iff_eq_none, Controller.ofType_isSome]
      exact fun ht => h ⟨by omega, by omega, ht⟩
    simp only [romType, htype]

/-! ### The machine that a legal reset record gives -/

theorem Reset.fits_parts (r : Reset) (p : Config.Params) (h : r.fits p = true) :
    (r.vram.fits 0x2000 = true ∧ r.wram.fits 0x2000 = true ∧ r.oam.fits 160 = true ∧ r.hram.fits 127 = true ∧
      r.sregs.wave.fits 16 = true) ∧
    (r.bank1.low5 ≠ 0 ∧ r.bank3.romBank ≠ 0) ∧ (Bus.atReset p r .blank).pictureFits = true := by
  simp only [Reset.fits, Bool.and_eq_true, decide_eq_true_eq] at h
  obtain ⟨⟨⟨⟨⟨⟨⟨⟨_, hvram⟩, hwram⟩, hoam⟩, hhram⟩, hwave⟩, hbank1⟩, hbank3⟩, hpicture⟩ := h
  exact ⟨⟨hvram, hwram, hoam, hhram, hwave⟩, ⟨hbank1, hbank3⟩, hpicture⟩

/-- A legal reset record with a cartridge that fits and has legal banks is a machine that keeps the invariant. -/
theorem Bus.atReset_inv {p : Config.Params} {r : Reset} (h : r.legal p) (c : Cartridge)
    (hrom : c.rom.fits c.romLen = true) (hxram : c.xram.fits c.ctl.xramSize = true) (hbanks : c.ctl.banksLegal = true) :
    (Bus.atReset p r c).Inv := by
  obtain ⟨hfits, hcaches⟩ := h
  obtain ⟨⟨hvram, hwram, hoam, hhram, hwave⟩, _, hpicture⟩ := r.fits_parts p hfits
  have ⟨hwf, hbelow⟩ : Cells.wfFrom 0 0 r.sregs.wave = true ∧ Cells.below 16 r.sregs.wave = true := by
    simpa only [Memory.fits, Memory.wf, Bool.and_eq_true] using hwave
  exact {
    storage := (Bus.storage_parts _).mpr ⟨hvram, hwram, hoam, hhram, hwave, hrom, hxram,
      waveSamples_wfFrom 0 _ hwf, waveSamples_below 16 _ hbelow⟩
    palettes := ⟨rfl, rfl, rfl⟩
    banks := hbanks
    caches := hcaches
    picture := hpicture
    wave := waveSamples_read _ 0 hwf
    mixer := ⟨rfl, rfl, ⟨rfl, rfl⟩, ⟨rfl, rfl⟩, ⟨rfl, rfl⟩, ⟨rfl, rfl⟩⟩ }

theorem Memory.fits_ofBytes (bytes : List Byte) : (Memory.ofBytes 0 bytes).fits bytes.length = true := by
  have hbelow := Memory.below_ofBytes 0 bytes
  rw [Nat.zero_add] at hbelow
  rw [Memory.fits, Memory.wf_ofBytes, hbelow]
  rfl

theorem Reset.default_legal : Reset.default.legal .default := by
  refine ⟨by decide, fun k tile h => ?_, fun k tile h => ?_, fun k tile h => ?_⟩ <;> cases h

/-- Settles O58: the image decides whether a cartridge is made (`Cartridge.ofImage_eq_some`, `Cartridge.ofImage_eq_none`),
and `Bus.atReset_inv` gives the invariant of the machine around it. -/
theorem constructionInvariant : Obligations.ConstructionInvariant := by
  refine ⟨Reset.default_legal, fun p r image load => ⟨fun hbad => ?_, fun hgood hlegal => ?_⟩⟩
  · unfold construct
    rw [Cartridge.ofImage_eq_none r none hbad]
  · obtain ⟨blank, _, hblank⟩ := Cartridge.ofImage_eq_some r none hgood
    unfold construct
    rw [hblank]
    simp only []
    generalize load _ = saved
    obtain ⟨ctl, htype, hcart⟩ := Cartridge.ofImage_eq_some r saved hgood
    obtain ⟨_, ⟨hbank1, hbank3⟩, _⟩ := r.fits_parts p hlegal.1
    rw [hcart]
    exact ⟨_, rfl, Bus.atReset_inv hlegal _ (Memory.fits_ofBytes image) (ctl.restore_fits saved)
      (Controller.ofType_banksLegal hbank1 hbank3 htype), rfl, rfl, rfl, rfl⟩

end Sys2Proof.Machine
end

section
/-! PROOFS. The decoder reads what the encoder writes (30_encoding.md R136): the tables of R123 to R127 and the codes
are inverse, so what an opcode selects has that opcode as the first byte of its encoding. -/

namespace Sys2Proof

/-! ### The tables of the operand fields and the codes (30_encoding.md R123, R126, R127) -/

/-- The values of a field of three bits. -/
theorem field_cases {k : Nat} (hk : k < 8) :
    k = 0 ∨ k = 1 ∨ k = 2 ∨ k = 3 ∨ k = 4 ∨ k = 5 ∨ k = 6 ∨ k = 7 := by omega

theorem operandOfCode_cases {k : Nat} (hk : k < 8) :
    (∃ r : Reg8, operandOfCode k = .reg r ∧ k = r.code) ∨ (operandOfCode k = .memHl ∧ k = 6) :=
  match k, hk with
  | 0, _ => .inl ⟨.b, rfl, rfl⟩
  | 1, _ => .inl ⟨.c, rfl, rfl⟩
  | 2, _ => .inl ⟨.d, rfl, rfl⟩
  | 3, _ => .inl ⟨.e, rfl, rfl⟩
  | 4, _ => .inl ⟨.h, rfl, rfl⟩
  | 5, _ => .inl ⟨.l, rfl, rfl⟩
  | 6, _ => .inr ⟨rfl, rfl⟩
  | 7, _ => .inl ⟨.a, rfl, rfl⟩

theorem code_aluOfCode {k : Nat} (hk : k < 8) : (aluOfCode k).code = k := by
  obtain rfl | rfl | rfl | rfl | rfl | rfl | rfl | rfl := field_cases hk <;> rfl

theorem code_rotOfCode {k : Nat} (hk : k < 8) : (rotOfCode k).code = k := by
  obtain rfl | rfl | rfl | rfl | rfl | rfl | rfl | rfl := field_cases hk <;> rfl

theorem val_bitOfCode {k : Nat} (hk : k < 8) : (bitOfCode k).val = k := Nat.mod_eq_of_lt hk

/-- The fields x, y, z of a byte (R122), and the byte put together from them. -/
theorem byte_fields (v : Byte) : ∃ x y z, x < 4 ∧ y < 8 ∧ z < 8 ∧
    v.toNat / 64 = x ∧ v.toNat / 8 % 8 = y ∧ v.toNat % 8 = z ∧ v = BitVec.ofNat 8 (64 * x + 8 * y + z) := by
  have hv := v.isLt
  refine ⟨_, _, _, by omega, by omega, by omega, rfl, rfl, rfl, BitVec.eq_of_toNat_eq ?_⟩
  rw [BitVec.toNat_ofNat]
  omega

/-! ### The bytes of an instruction family -/

/-- A well-formed instruction and its encoding. -/
structure Instr.HasBytes (i : Instr) (bytes : List Byte) : Prop where
  wellFormed : i.wellFormed = true
  encode : encode i = bytes

namespace Instr

theorem ldRegReg_hasBytes (dst src : Reg8) :
    (ldRegReg dst src).HasBytes [BitVec.ofNat 8 (0x40 + 8 * dst.code + src.code)] := by
  cases dst <;> cases src <;> exact ⟨rfl, rfl⟩

theorem ldRegMem_hasBytes (dst : Reg8) : (ldRegMem dst).HasBytes [BitVec.ofNat 8 (0x40 + 8 * dst.code + 6)] := by
  cases dst <;> exact ⟨rfl, rfl⟩

theorem ldMemReg_hasBytes (src : Reg8) : (ldMemReg src).HasBytes [BitVec.ofNat 8 (0x40 + 8 * 6 + src.code)] := by
  cases src <;> exact ⟨rfl, rfl⟩

theorem aluReg_hasBytes (op : AluOp) (r : Reg8) :
    (aluReg op r).HasBytes [BitVec.ofNat 8 (0x80 + 8 * op.code + r.code)] := by
  cases op <;> cases r <;> exact ⟨rfl, rfl⟩

theorem aluMem_hasBytes (op : AluOp) : (aluMem op).HasBytes [BitVec.ofNat 8 (0x80 + 8 * op.code + 6)] := by
  cases op <;> exact ⟨rfl, rfl⟩

theorem rotReg_hasBytes (op : RotOp) (r : Reg8) :
    (rotReg op r).HasBytes [0xCB, BitVec.ofNat 8 (8 * op.code + r.code)] := by
  cases op <;> cases r <;> exact ⟨rfl, rfl⟩

theorem rotMem_hasBytes (op : RotOp) : (rotMem op).HasBytes [0xCB, BitVec.ofNat 8 (8 * op.code + 6)] := by
  cases op <;> exact ⟨rfl, rfl⟩

theorem bitReg_hasBytes (k : Fin 8) (r : Reg8) :
    (bitReg k r).HasBytes [0xCB, BitVec.ofNat 8 (0x40 + 8 * k.val + r.code)] := by
  match k with
  | 0 | 1 | 2 | 3 | 4 | 5 | 6 | 7 => cases r <;> exact ⟨rfl, rfl⟩

theorem bitMem_hasBytes (k : Fin 8) : (bitMem k).HasBytes [0xCB, BitVec.ofNat 8 (0x40 + 8 * k.val + 6)] :=
  match k with
  | 0 | 1 | 2 | 3 | 4 | 5 | 6 | 7 => ⟨rfl, rfl⟩

theorem resReg_hasBytes (k : Fin 8) (r : Reg8) :
    (resReg k r).HasBytes [0xCB, BitVec.ofNat 8 (0x80 + 8 * k.val + r.code)] := by
  match k with
  | 0 | 1 | 2 | 3 | 4 | 5 | 6 | 7 => cases r <;> exact ⟨rfl, rfl⟩

theorem resMem_hasBytes (k : Fin 8) : (resMem k).HasBytes [0xCB, BitVec.ofNat 8 (0x80 + 8 * k.val + 6)] :=
  match k with
  | 0 | 1 | 2 | 3 | 4 | 5 | 6 | 7 => ⟨rfl, rfl⟩

theorem setReg_hasBytes (k : Fin 8) (r : Reg8) :
    (setReg k r).HasBytes [0xCB, BitVec.ofNat 8 (0xC0 + 8 * k.val + r.code)] := by
  match k with
  | 0 | 1 | 2 | 3 | 4 | 5 | 6 | 7 => cases r <;> exact ⟨rfl, rfl⟩

theorem setMem_hasBytes (k : Fin 8) : (setMem k).HasBytes [0xCB, BitVec.ofNat 8 (0xC0 + 8 * k.val + 6)] :=
  match k with
  | 0 | 1 | 2 | 3 | 4 | 5 | 6 | 7 => ⟨rfl, rfl⟩

end Instr

/-! ### What an opcode selects -/

/-- What an opcode selects is encoded as that opcode and the operand bytes the decoder reads for it. -/
inductive Form.Faithful : Byte → Form → Prop where
  | op {op : Byte} {i : Instr} (hi : i.HasBytes [op]) : Faithful op (.op i)
  | n8 {op : Byte} {f : Byte → Instr} (hf : ∀ n, (f n).HasBytes [op, n]) : Faithful op (.n8 f)
  | n16 {op : Byte} {f : Word → Instr} (hf : ∀ v, (f v).HasBytes [op, loByte v, hiByte v]) : Faithful op (.n16 f)
  | secondary : Faithful 0xCB .secondary

section
variable {y z : Nat} (hy : y < 8) (hz : z < 8)
include hy hz

/-- No one table gives the columns of `x = 0` (R128), so the 64 opcodes are evaluated one by one. -/
theorem decodeX0_faithful : Form.Faithful (BitVec.ofNat 8 (8 * y + z)) (decodeX0 y z) := by
  obtain rfl | rfl | rfl | rfl | rfl | rfl | rfl | rfl := field_cases hz <;>
  obtain rfl | rfl | rfl | rfl | rfl | rfl | rfl | rfl := field_cases hy
  all_goals constructor
  all_goals intros; exact ⟨rfl, rfl⟩

theorem decodeX1_faithful : Form.Faithful (BitVec.ofNat 8 (0x40 + 8 * y + z)) (decodeX1 y z) := by
  obtain ⟨dst, hdst, rfl⟩ | ⟨hdst, rfl⟩ := operandOfCode_cases hy <;>
  obtain ⟨src, hsrc, rfl⟩ | ⟨hsrc, rfl⟩ := operandOfCode_cases hz <;>
  simp only [decodeX1, hdst, hsrc]
  · exact .op (Instr.ldRegReg_hasBytes dst src)
  · exact .op (Instr.ldRegMem_hasBytes dst)
  · exact .op (Instr.ldMemReg_hasBytes src)
  · exact .op ⟨rfl, rfl⟩

theorem decodeX2_faithful : Form.Faithful (BitVec.ofNat 8 (0x80 + 8 * y + z)) (decodeX2 y z) := by
  unfold decodeX2
  obtain ⟨r, hr, rfl⟩ | ⟨hr, rfl⟩ := operandOfCode_cases hz <;> rw [hr]
  · simpa only [code_aluOfCode hy] using Form.Faithful.op (Instr.aluReg_hasBytes (aluOfCode y) r)
  · simpa only [code_aluOfCode hy] using Form.Faithful.op (Instr.aluMem_hasBytes (aluOfCode y))

/-- As for `x = 0`; an opcode that is decoded to an illegal instruction is one of the eleven (R131, R133). -/
theorem decodeX3_faithful :
    Form.Faithful (BitVec.ofNat 8 (0xC0 + 8 * y + z)) (decodeX3 (BitVec.ofNat 8 (0xC0 + 8 * y + z)) y z) := by
  obtain rfl | rfl | rfl | rfl | rfl | rfl | rfl | rfl := field_cases hz <;>
  obtain rfl | rfl | rfl | rfl | rfl | rfl | rfl | rfl := field_cases hy
  all_goals constructor
  all_goals intros; exact ⟨rfl, rfl⟩

end

theorem decodeOp_faithful (op : Byte) : (decodeOp op).Faithful op := by
  obtain ⟨x, y, z, hx, hy, hz, hopx, hopy, hopz, hop⟩ := byte_fields op
  unfold decodeOp
  rw [hopx, hopy, hopz, hop]
  match x, hx with
  | 0, _ => simpa only [Nat.mul_zero, Nat.zero_add] using decodeX0_faithful hy hz
  | 1, _ => exact decodeX1_faithful hy hz
  | 2, _ => exact decodeX2_faithful hy hz
  | 3, _ => exact decodeX3_faithful hy hz

theorem decodeSecondary_hasBytes (sub : Byte) : (decodeSecondary sub).HasBytes [0xCB, sub] := by
  obtain ⟨x, y, z, hx, hy, hz, hsubx, hsuby, hsubz, hsub⟩ := byte_fields sub
  unfold decodeSecondary
  rw [hsubx, hsuby, hsubz, hsub]
  obtain ⟨r, hr, rfl⟩ | ⟨hr, rfl⟩ := operandOfCode_cases hz <;> rw [hr]
  · match x, hx with
    | 0, _ => simpa only [code_rotOfCode hy, Nat.mul_zero, Nat.zero_add] using Instr.rotReg_hasBytes (rotOfCode y) r
    | 1, _ => simpa only [val_bitOfCode hy] using Instr.bitReg_hasBytes (bitOfCode y) r
    | 2, _ => simpa only [val_bitOfCode hy] using Instr.resReg_hasBytes (bitOfCode y) r
    | 3, _ => simpa only [val_bitOfCode hy] using Instr.setReg_hasBytes (bitOfCode y) r
  · match x, hx with
    | 0, _ => simpa only [code_rotOfCode hy, Nat.mul_zero, Nat.zero_add] using Instr.rotMem_hasBytes (rotOfCode y)
    | 1, _ => simpa only [val_bitOfCode hy] using Instr.bitMem_hasBytes (bitOfCode y)
    | 2, _ => simpa only [val_bitOfCode hy] using Instr.resMem_hasBytes (bitOfCode y)
    | 3, _ => simpa only [val_bitOfCode hy] using Instr.setMem_hasBytes (bitOfCode y)

/-! ### Decoding a list of bytes -/

section
variable {op : Byte} (rest : List Byte)

theorem decode_of_op {i : Instr} (h : decodeOp op = .op i) : decode (op :: rest) = .ok (i, rest) := by
  simp only [decode, h]

theorem decode_of_n8 {f : Byte → Instr} (h : decodeOp op = .n8 f) (n : Byte) :
    decode (op :: n :: rest) = .ok (f n, rest) := by
  simp only [decode, h]

theorem decode_of_n16 {f : Word → Instr} (h : decodeOp op = .n16 f) (lo hi : Byte) :
    decode (op :: lo :: hi :: rest) = .ok (f (word hi lo), rest) := by
  simp only [decode, h]

theorem decode_of_secondary (h : decodeOp op = .secondary) (sub : Byte) :
    decode (op :: sub :: rest) = .ok (decodeSecondary sub, rest) := by
  simp only [decode, h]

end

theorem exists_decode_of_three (x y z : Byte) (rest : List Byte) :
    ∃ i rest', decode (x :: y :: z :: rest) = .ok (i, rest') := by
  cases h : decodeOp x with
  | op i => exact ⟨i, _, decode_of_op _ h⟩
  | n8 f => exact ⟨f y, _, decode_of_n8 _ h y⟩
  | n16 f => exact ⟨f (word z y), _, decode_of_n16 _ h y z⟩
  | secondary => exact ⟨decodeSecondary y, _, decode_of_secondary _ h y⟩

/-- The bytes that the decoder read are those of the instruction, and those it left follow them. -/
theorem decode_hasBytes {bytes rest : List Byte} {i : Instr} (h : decode bytes = .ok (i, rest)) :
    ∃ read, i.HasBytes read ∧ read ++ rest = bytes := by
  cases bytes with
  | nil => cases h
  | cons op tail =>
    have hform := decodeOp_faithful op
    simp only [decode] at h
    generalize decodeOp op = form at h hform
    cases hform with
    | op hi => cases h; exact ⟨_, hi, rfl⟩
    | n8 hf =>
      match tail with
      | n :: tail => cases h; exact ⟨_, hf n, rfl⟩
    | n16 hf =>
      match tail with
      | lo :: hi :: tail => cases h; exact ⟨_, hf (word hi lo), by simp⟩
    | secondary =>
      match tail with
      | sub :: tail => cases h; exact ⟨_, decodeSecondary_hasBytes sub, rfl⟩

/-- Settles O3: `decode_hasBytes` for the bytes read, `exists_decode_of_three` for totality. -/
theorem encodeDecode : Obligations.EncodeDecode := by
  refine ⟨fun bytes i rest h => ?_, exists_decode_of_three⟩
  obtain ⟨read, ⟨hwf, henc⟩, hbytes⟩ := decode_hasBytes h
  exact ⟨hwf, henc ▸ hbytes⟩

end Sys2Proof
end

section
/-! PROOFS. The 8-bit loads (40_load8.md R141 to R159): what each instruction executes by its operand code, then one lemma
for all loads of a register from memory and one for all stores of a byte. -/

namespace Sys2Proof.Machine

/-! ### The instructions by operand code -/

section
variable (dst src : Reg8) (n : Byte) (s : State)

theorem exec_ldRegReg :
    exec (.ldRegReg dst src) s = loadRegReg (s.cost (0x40 + 8 * dst.code + src.code) true) dst src s := by
  cases dst <;> cases src <;> rfl

theorem exec_ldRegImm : exec (.ldRegImm dst n) s = loadRegImm (s.cost (0x06 + 8 * dst.code) true) dst n s := by
  cases dst <;> rfl

theorem exec_ldRegMem : exec (.ldRegMem dst) s = loadRegAt (s.cost (0x46 + 8 * dst.code) true) dst s.hl s := by
  cases dst <;> rfl

theorem exec_ldMemReg : exec (.ldMemReg src) s = storeAt (s.cost (0x70 + src.code) true) s.hl (s.reg src) s := by
  cases src <;> rfl

theorem encode_ldRegImm : encode (.ldRegImm dst n) = [BitVec.ofNat 8 (0x06 + 8 * dst.code), n] := by
  cases dst <;> rfl

theorem encode_ldRegMem : encode (.ldRegMem dst) = [BitVec.ofNat 8 (0x46 + 8 * dst.code)] := by
  rw [(Instr.ldRegMem_hasBytes dst).encode, Nat.add_right_comm]

end

/-! ### Default ticks by operand code (70_reset_and_hazards.md R370) -/

theorem tickCost_ldRegReg (dst src : Reg8) :
    Config.Params.default.tickCost (0x40 + 8 * dst.code + src.code) true = 4 := by
  cases dst <;> cases src <;> rfl

theorem tickCost_ldRegImm (dst : Reg8) : Config.Params.default.tickCost (0x06 + 8 * dst.code) true = 8 := by
  cases dst <;> rfl

theorem tickCost_ldRegMem (dst : Reg8) : Config.Params.default.tickCost (0x46 + 8 * dst.code) true = 8 := by
  cases dst <;> rfl

theorem tickCost_ldMemReg (src : Reg8) : Config.Params.default.tickCost (0x70 + src.code) true = 8 := by
  cases src <;> rfl

/-! ### The high page (30_encoding.md R127) -/

theorem highPage_toNat (n : Byte) : (highPage n).toNat = 0xFF00 + n.toNat := word_toNat 0xFF n

theorem highPage_eq_add (n : Byte) : highPage n = 0xFF00#16 + n.setWidth 16 := by
  apply BitVec.eq_of_toNat_eq
  rw [highPage_toNat]
  have hn := n.isLt
  simp only [BitVec.toNat_add, BitVec.toNat_ofNat, BitVec.toNat_setWidth]
  omega

/-- The high page is never the cartridge's, so no read there is refused. -/
theorem Bus.read_highPage (b : Bus) (n : Byte) :
    b.read (highPage n) = .ok (b.value (highPage n)) (b.afterRead (highPage n)) :=
  b.read_of_not_cart (regionOf_ne_cart (by rw [highPage_toNat]; omega))

theorem loadRegAt_highPage (s : State) (cost : Nat) (dst : Reg8) (n : Byte) : loadRegAt cost dst (highPage n) s =
    .next (((s.setBus (s.bus.afterRead (0xFF00#16 + n.setWidth 16))).setReg dst
      (s.bus.value (0xFF00#16 + n.setWidth 16))).tick cost) := by
  rw [← highPage_eq_add]
  exact withByte_ok (s.bus.read_highPage n)

/-! ### Loads and stores by the outcome of their access -/

section
variable {s : State} {i : Instr} {cost : Nat} {a d w : Word} {x : Byte} {b : Bus}

theorem exec_of_loadRegAt {dst : Reg8} (hi : exec i s = loadRegAt cost dst a s) :
    (∀ v b, s.bus.read a = .ok v b → exec i s = .next (((s.setBus b).setReg dst v).tick cost)) ∧
    (∀ w b, s.bus.read a = .fatal w b → exec i s = .next ((s.setBus b).raise (.cartridgeAccess w))) :=
  ⟨fun _ _ h => hi.trans (withByte_ok h), fun _ _ h => hi.trans (withByte_fatal h)⟩

theorem exec_of_storeAt (hi : exec i s = storeAt cost a x s) :
    (∀ b, s.bus.write a x = .ok () b → exec i s = .next ((s.setBus b).tick cost)) ∧
    (∀ w b, s.bus.write a x = .fatal w b → exec i s = .next ((s.setBus b).raise (.cartridgeAccess w))) :=
  ⟨fun _ h => hi.trans (storeByte_ok h), fun _ _ h => hi.trans (storeByte_fatal h)⟩

theorem loadAHlStep_ok (h : s.bus.read s.hl = .ok x b) : loadAHlStep cost d s =
    .next ((((s.setBus b).setReg .a x).setStackPair .hl (s.hl + d)).tick cost) := withByte_ok h

theorem loadAHlStep_fatal (h : s.bus.read s.hl = .fatal w b) :
    loadAHlStep cost d s = .next ((s.setBus b).raise (.cartridgeAccess w)) := withByte_fatal h

theorem storeAHlStep_ok (h : s.bus.write s.hl (s.reg .a) = .ok () b) : storeAHlStep cost d s =
    .next (((s.setBus b).setStackPair .hl (s.hl + d)).tick cost) := storeByte_ok h

theorem storeAHlStep_fatal (h : s.bus.write s.hl (s.reg .a) = .fatal w b) :
    storeAHlStep cost d s = .next ((s.setBus b).raise (.cartridgeAccess w)) := storeByte_fatal h

end

/-! ### The statements -/

/-- Settles O13: one equation per form for every pair of operand codes. -/
theorem loadRegister : Obligations.LoadRegister := by
  intro dst src n s d
  exact ⟨(Instr.ldRegReg_hasBytes dst src).encode, exec_ldRegReg dst src s, encode_ldRegImm dst n, exec_ldRegImm dst n s,
    tickCost_ldRegReg dst src, tickCost_ldRegImm dst⟩

/-- Settles O14: `exec_of_loadRegAt` for the four loads that can be refused, `loadRegAt_highPage` for the two that cannot. -/
theorem loadFromMemory : Obligations.LoadFromMemory := by
  intro dst nn n s d
  refine ⟨⟨encode_ldRegMem dst, rfl, rfl, rfl⟩, ?_, rfl, rfl, loadRegAt_highPage s _ .a (s.reg .c),
    loadRegAt_highPage s _ .a n, rfl, rfl⟩
  simp only [List.forall_mem_cons]
  exact ⟨⟨tickCost_ldRegMem dst, exec_of_loadRegAt (exec_ldRegMem dst s)⟩, ⟨rfl, exec_of_loadRegAt rfl⟩,
    ⟨rfl, exec_of_loadRegAt rfl⟩, ⟨rfl, exec_of_loadRegAt rfl⟩, List.forall_mem_nil _⟩

/-- Settles O15: `exec_of_storeAt` at the address and the byte of each form. -/
theorem storeToMemory : Obligations.StoreToMemory := by
  intro src nn n s d
  refine ⟨⟨(Instr.ldMemReg_hasBytes src).encode, rfl, rfl, rfl, rfl, rfl, rfl⟩, ?_⟩
  simp only [List.forall_mem_cons]
  exact ⟨⟨tickCost_ldMemReg src, exec_of_storeAt (exec_ldMemReg src s)⟩, ⟨rfl, exec_of_storeAt rfl⟩,
    ⟨rfl, exec_of_storeAt rfl⟩, ⟨rfl, exec_of_storeAt rfl⟩, ⟨rfl, exec_of_storeAt rfl⟩, ⟨rfl, exec_of_storeAt rfl⟩,
    ⟨rfl, exec_of_storeAt rfl⟩, List.forall_mem_nil _⟩

/-- Settles O16: the forms that move HL down add -1 to it. -/
theorem hlStep : Obligations.HlStep := by
  intro s d
  simp only [BitVec.sub_eq_add_neg]
  exact ⟨⟨rfl, rfl, rfl, rfl⟩, ⟨rfl, rfl, rfl, rfl⟩, fun _ _ h => ⟨loadAHlStep_ok h, loadAHlStep_ok h⟩,
    fun _ _ h => ⟨loadAHlStep_fatal h, loadAHlStep_fatal h⟩, fun _ h => ⟨storeAHlStep_ok h, storeAHlStep_ok h⟩,
    fun _ _ h => ⟨storeAHlStep_fatal h, storeAHlStep_fatal h⟩⟩

end Sys2Proof.Machine
end

section
/-! PROOFS. The 16-bit loads and the stack (41_load16_stack.md R166 to R172): what each instruction executes by its pair
code, then one lemma for all pushes and one for the refusals of all pops. -/

namespace Sys2Proof.Machine

/-! ### The instructions by pair code -/

section
variable (p : Pair) (q : StackPair) (nn : Word) (s : State)

theorem exec_ldPairImm : exec (.ldPairImm p nn) s = loadPairImm (s.cost (0x01 + 16 * p.code) true) p nn s := by
  cases p <;> rfl

theorem exec_pushPair : exec (.pushPair q) s = pushPair (s.cost (0xC5 + 16 * q.code) true) q s := by
  cases q <;> rfl

theorem exec_popPair : exec (.popPair q) s = popPair (s.cost (0xC1 + 16 * q.code) true) q s := by
  cases q <;> rfl

theorem encode_ldPairImm :
    encode (.ldPairImm p nn) = [BitVec.ofNat 8 (0x01 + 16 * p.code), loByte nn, hiByte nn] := by
  cases p <;> rfl

theorem encode_pushPair : encode (.pushPair q) = [BitVec.ofNat 8 (0xC5 + 16 * q.code)] := by
  cases q <;> rfl

theorem encode_popPair : encode (.popPair q) = [BitVec.ofNat 8 (0xC1 + 16 * q.code)] := by
  cases q <;> rfl

/-! ### Default ticks by pair code (70_reset_and_hazards.md R370) -/

theorem tickCost_ldPairImm : Config.Params.default.tickCost (0x01 + 16 * p.code) true = 12 := by
  cases p <;> rfl

theorem tickCost_pushPair : Config.Params.default.tickCost (0xC5 + 16 * q.code) true = 16 := by
  cases q <;> rfl

theorem tickCost_popPair : Config.Params.default.tickCost (0xC1 + 16 * q.code) true = 12 := by
  cases q <;> rfl

end

/-! ### Two-byte stores, pushes and pops by the outcome of their accesses -/

/-- A popped word reaches AF with the low byte's low nibble discarded (41_load16_stack.md R172). -/
theorem State.setAf_word (s : State) (h l : Byte) : s.setAf (word h l) = (s.setReg .a h).setFlags (.ofByte l) := by
  unfold State.setAf
  rw [hiByte_word, loByte_word]

section
variable {s : State} {i : Instr} {cost : Nat} {nn v w : Word} {b c : Bus}

theorem execLdMnnSp_ok (h : s.bus.write nn (loByte s.cpu.sp) = .ok () b)
    (k : b.write (nn + 1) (hiByte s.cpu.sp) = .ok () c) :
    execLdMnnSp nn s = .next ((s.setBus c).tick (s.cost 0x08 true)) := by
  unfold execLdMnnSp; rw [memWrite16_ok h k]; rfl

theorem execLdMnnSp_fatal (h : s.bus.write nn (loByte s.cpu.sp) = .fatal w b) :
    execLdMnnSp nn s = .next ((s.setBus b).raise (.cartridgeAccess w)) := by
  unfold execLdMnnSp; rw [memWrite16_fatal h]; rfl

theorem execLdMnnSp_fatal_second (h : s.bus.write nn (loByte s.cpu.sp) = .ok () b)
    (k : b.write (nn + 1) (hiByte s.cpu.sp) = .fatal w c) :
    execLdMnnSp nn s = .next ((s.setBus c).raise (.cartridgeAccess w)) := by
  unfold execLdMnnSp; rw [memWrite16_fatal_second h k]; rfl

theorem exec_of_pushWord (hi : exec i s = pushWord cost v s) :
    (∀ b c, s.bus.write (s.cpu.sp - 1) (hiByte v) = .ok () b → b.write (s.cpu.sp - 2) (loByte v) = .ok () c →
      exec i s = .next (((s.setBus c).setSp (s.cpu.sp - 2)).tick cost)) ∧
    (∀ w b, s.bus.write (s.cpu.sp - 1) (hiByte v) = .fatal w b →
      exec i s = .next (((s.setBus b).setSp (s.cpu.sp - 1)).raise (.cartridgeAccess w))) ∧
    (∀ w b c, s.bus.write (s.cpu.sp - 1) (hiByte v) = .ok () b → b.write (s.cpu.sp - 2) (loByte v) = .fatal w c →
      exec i s = .next (((s.setBus c).setSp (s.cpu.sp - 2)).raise (.cartridgeAccess w))) :=
  ⟨fun _ _ h k => hi.trans (pushWord_ok h k), fun _ _ h => hi.trans (pushWord_fatal h),
    fun _ _ _ h k => hi.trans (pushWord_fatal_second h k)⟩

/-- A pop that is refused writes no register, whatever its destination `f`. -/
theorem exec_of_popWord_fatal {f : Word → State → State} (hi : exec i s = popWord cost f s) :
    (∀ w b, s.bus.read s.cpu.sp = .fatal w b → exec i s = .next ((s.setBus b).raise (.cartridgeAccess w))) ∧
    (∀ l w b c, s.bus.read s.cpu.sp = .ok l b → b.read (s.cpu.sp + 1) = .fatal w c →
      exec i s = .next (((s.setBus c).setSp (s.cpu.sp + 1)).raise (.cartridgeAccess w))) :=
  ⟨fun _ _ h => hi.trans (popWord_fatal h), fun _ _ _ _ h k => hi.trans (popWord_fatal_second h k)⟩

theorem execPopAf_ok {l h : Byte} (hl : s.bus.read s.cpu.sp = .ok l b) (hh : b.read (s.cpu.sp + 1) = .ok h c) :
    execPopAf s = .next (((((s.setBus c).setSp (s.cpu.sp + 2)).setReg .a h).setFlags (.ofByte l)).tick
      (s.cost 0xF1 true)) := by
  rw [← State.setAf_word]
  exact popWord_ok hl hh

end

end Sys2Proof.Machine

/-! ### The statements -/

namespace Sys2Proof
open Machine

/-- Settles O17: one equation per pair load, `execLdMnnSp` by the outcome of its two writes. -/
theorem wordLoads : Obligations.WordLoads := by
  intro p nn s d
  exact ⟨⟨encode_ldPairImm p nn, rfl, rfl⟩, ⟨tickCost_ldPairImm p, rfl, rfl⟩, exec_ldPairImm p nn s, rfl,
    fun _ _ h k => execLdMnnSp_ok h k, fun _ _ h => execLdMnnSp_fatal h,
    fun _ _ _ h k => execLdMnnSp_fatal_second h k⟩

/-- Settles O18: `exec_of_pushWord` at the pair and at AF. -/
theorem pushPair : Obligations.PushPair := by
  intro p s d
  refine ⟨encode_pushPair p, rfl, tickCost_pushPair p, rfl, ?_⟩
  simp only [List.forall_mem_cons]
  exact ⟨exec_of_pushWord (exec_pushPair p s), exec_of_pushWord rfl, List.forall_mem_nil _⟩

/-- Settles O19: `popWord_ok` at the pair and `execPopAf_ok`; a refusal leaves both alike. -/
theorem popPair : Obligations.PopPair := by
  intro p s d
  refine ⟨encode_popPair p, rfl, tickCost_popPair p, rfl,
    fun l h b c hl hh => ⟨(exec_popPair p s).trans (popWord_ok hl hh), execPopAf_ok hl hh⟩, ?_⟩
  simp only [List.forall_mem_cons]
  exact ⟨exec_of_popWord_fatal (exec_popPair p s), exec_of_popWord_fatal (f := fun v s => s.setAf v) rfl,
    List.forall_mem_nil _⟩

end Sys2Proof
end

section
/-! PROOFS. The 8-bit arithmetic and logic (42_alu8.md R175 to R202): the results on exact integers, then what each
instruction executes by its operand code. -/

namespace Sys2Proof.Machine

/-! ### Results and flags on exact integers (42_alu8.md R176 to R188) -/

theorem nibble_eq_mod (v : Byte) : nibble v = v.toNat % 16 := by
  unfold nibble
  rw [BitVec.extractLsb'_toNat, Nat.shiftRight_zero]

theorem nibble_eq_iff (v : Byte) (k : BitVec 4) : nibble v = k.toNat ↔ v.extractLsb' 0 4 = k := BitVec.toNat_inj

/-- Narrowing to a byte is reduction modulo 256 (00_scope.md R8). -/
theorem byte_ofNat_mod (n : Nat) : BitVec.ofNat 8 (n % 256) = BitVec.ofNat 8 n :=
  BitVec.eq_of_toNat_eq (Nat.mod_mod n 256)

theorem byte_ofNat_eq_zero_iff (n : Nat) : BitVec.ofNat 8 n = 0 ↔ n % 256 = 0 := by
  rw [← BitVec.toNat_inj, BitVec.toNat_ofNat]
  rfl

/-- A sum of bytes, with or without a carry in (R176, R177). -/
theorem addByte_eq (a x : Byte) (c : Nat) : addByte a x c =
    (BitVec.ofNat 8 ((a.toNat + x.toNat + c) % 256),
      { z := decide ((a.toNat + x.toNat + c) % 256 = 0), n := false
        h := decide (a.toNat % 16 + x.toNat % 16 + c > 0xF), c := decide (a.toNat + x.toNat + c > 0xFF) }) := by
  simp only [addByte, byte_ofNat_mod, byte_ofNat_eq_zero_iff, nibble_eq_mod]

/-- A difference that is at least -512 wraps as its excess over -512 does. -/
theorem byte_ofInt_sub (a x c : Nat) (h : x + c ≤ a + 512) :
    BitVec.ofInt 8 ((a : Int) - x - c) = BitVec.ofNat 8 ((a + 512 - x - c) % 256) := by
  apply BitVec.eq_of_toNat_eq
  rw [BitVec.toNat_ofInt, BitVec.toNat_ofNat]
  omega

/-- A difference of bytes, with or without a borrow in (R178, R179). -/
theorem subByte_eq (a x : Byte) {c : Nat} (hc : c ≤ 1) : subByte a x c =
    (BitVec.ofNat 8 ((a.toNat + 512 - x.toNat - c) % 256),
      { z := decide ((a.toNat + 512 - x.toNat - c) % 256 = 0), n := true
        h := decide (a.toNat % 16 < x.toNat % 16 + c), c := decide (a.toNat < x.toNat + c) }) := by
  have hx := x.isLt
  have hH : ((a.toNat % 16 : Nat) : Int) - (x.toNat % 16 : Nat) - c < 0 ↔ a.toNat % 16 < x.toNat % 16 + c := by omega
  have hC : (a.toNat : Int) - x.toNat - c < 0 ↔ a.toNat < x.toNat + c := by omega
  simp only [subByte, byte_ofInt_sub _ _ _ (show x.toNat + c ≤ a.toNat + 512 by omega), byte_ofNat_eq_zero_iff,
    Nat.mod_mod, nibble_eq_mod, hH, hC]

theorem bitNat_le_one (v : Bool) : bitNat v ≤ 1 := by cases v <;> decide

/-! ### INC and DEC (42_alu8.md R184, R186) -/

theorem incByte_eq (v : Byte) (f : Flags) : incByte v f =
    (v + 1, { z := decide (v + 1 = 0), n := false, h := decide (v.extractLsb' 0 4 = 0xF#4), c := f.c }) := by
  simp only [incByte, ← nibble_eq_iff, BitVec.toNat_ofNat]

theorem decByte_eq (v : Byte) (f : Flags) : decByte v f =
    (v - 1, { z := decide (v - 1 = 0), n := true, h := decide (v.extractLsb' 0 4 = 0x0#4), c := f.c }) := by
  simp only [decByte, ← nibble_eq_iff, BitVec.toNat_ofNat]

/-! ### DAA (42_alu8.md R199) -/

theorem daaLow_iff (a : Byte) (f : Flags) : daaLow a f = true ↔ f.h = true ∨ (f.n = false ∧ a.toNat % 16 > 9) := by
  simp [daaLow, nibble_eq_mod]

theorem daaHigh_iff (a : Byte) (f : Flags) : daaHigh a f = true ↔ f.c = true ∨ (f.n = false ∧ a.toNat > 0x99) := by
  simp [daaHigh]

theorem daaAdjust_toNat (a : Byte) (f : Flags) : (daaAdjust a f).toNat =
    (if f.h ∨ (f.n = false ∧ a.toNat % 16 > 9) then 6 else 0) +
      (if f.c ∨ (f.n = false ∧ a.toNat > 0x99) then 0x60 else 0) := by
  simp only [← daaLow_iff, ← daaHigh_iff, daaAdjust]
  cases daaLow a f <;> cases daaHigh a f <;> rfl

theorem byte_add_eq_ofNat (a x : Byte) : a + x = BitVec.ofNat 8 ((a.toNat + x.toNat) % 256) := by
  rw [byte_ofNat_mod, BitVec.add_def]

theorem byte_sub_eq_ofNat (a x : Byte) : a - x = BitVec.ofNat 8 ((a.toNat + 256 - x.toNat) % 256) := by
  have hx := x.isLt
  rw [byte_ofNat_mod, BitVec.sub_def, show 2 ^ 8 - x.toNat + a.toNat = a.toNat + 256 - x.toNat by omega]

/-- The byte that DAA leaves, by N. -/
theorem daa_fst (a : Byte) (f : Flags) : (daa a f).1 = BitVec.ofNat 8
    (if f.n then (a.toNat + 256 - (daaAdjust a f).toNat) % 256 else (a.toNat + (daaAdjust a f).toNat) % 256) := by
  unfold daa
  split
  · exact byte_sub_eq_ofNat a _
  · exact byte_add_eq_ofNat a _

/-! ### The instructions by operand code -/

section
variable (op : AluOp) (r : Reg8) (n : Byte) (s : State)

theorem exec_aluReg : exec (.aluReg op r) s = aluReg (s.cost (0x80 + 8 * op.code + r.code) true) op r s := by
  cases op <;> cases r <;> rfl

theorem exec_aluMem : exec (.aluMem op) s = aluMem (s.cost (0x86 + 8 * op.code) true) op s := by
  cases op <;> rfl

theorem exec_aluImm : exec (.aluImm op n) s = aluImm (s.cost (0xC6 + 8 * op.code) true) op n s := by
  cases op <;> rfl

theorem exec_incReg : exec (.incReg r) s = modifyReg (s.cost (0x04 + 8 * r.code) true) r incByte s := by
  cases r <;> rfl

theorem exec_decReg : exec (.decReg r) s = modifyReg (s.cost (0x05 + 8 * r.code) true) r decByte s := by
  cases r <;> rfl

theorem encode_aluMem : encode (.aluMem op) = [BitVec.ofNat 8 (0x86 + 8 * op.code)] := by
  rw [(Instr.aluMem_hasBytes op).encode, Nat.add_right_comm]

theorem encode_aluImm : encode (.aluImm op n) = [BitVec.ofNat 8 (0xC6 + 8 * op.code), n] := by
  cases op <;> rfl

theorem encode_incReg : encode (.incReg r) = [BitVec.ofNat 8 (0x04 + 8 * r.code)] := by
  cases r <;> rfl

theorem encode_decReg : encode (.decReg r) = [BitVec.ofNat 8 (0x05 + 8 * r.code)] := by
  cases r <;> rfl

/-! ### Default ticks by operand code (70_reset_and_hazards.md R370) -/

theorem tickCost_aluReg : Config.Params.default.tickCost (0x80 + 8 * op.code + r.code) true = 4 := by
  cases op <;> cases r <;> rfl

theorem tickCost_aluMem : Config.Params.default.tickCost (0x86 + 8 * op.code) true = 8 := by
  cases op <;> rfl

theorem tickCost_aluImm : Config.Params.default.tickCost (0xC6 + 8 * op.code) true = 8 := by
  cases op <;> rfl

theorem tickCost_incReg : Config.Params.default.tickCost (0x04 + 8 * r.code) true = 4 := by
  cases r <;> rfl

theorem tickCost_decReg : Config.Params.default.tickCost (0x05 + 8 * r.code) true = 4 := by
  cases r <;> rfl

end

/-! ### A byte modified in a register or at HL -/

/-- A change `f` of a byte and the flags, whose result is `g` and whose flags are `fl` of the byte: in register `r` by
`i`, at HL by `j`. -/
theorem exec_of_modify {i j : Instr} {r : Reg8} {s : State} {cost costHl : Nat} {f : Byte → Flags → Byte × Flags}
    {g : Byte → Byte} {fl : Byte → Flags} (hf : ∀ v, f v s.cpu.flags = (g v, fl v))
    (hi : exec i s = modifyReg cost r f s) (hj : exec j s = modifyHl costHl f s) :
    exec i s = .next (((s.setReg r (g (s.reg r))).setFlags (fl (s.reg r))).tick cost) ∧
    (∀ v b c, s.bus.read s.hl = .ok v b → b.write s.hl (g v) = .ok () c →
      exec j s = .next (((s.setBus c).setFlags (fl v)).tick costHl)) ∧
    (∀ x b, s.bus.read s.hl = .fatal x b → exec j s = .next ((s.setBus b).raise (.cartridgeAccess x))) ∧
    (∀ v x b c, s.bus.read s.hl = .ok v b → b.write s.hl (g v) = .fatal x c →
      exec j s = .next ((s.setBus c).raise (.cartridgeAccess x))) := by
  have hg : ∀ v, g v = (f v s.cpu.flags).1 := fun v => by rw [hf]
  have hfl : ∀ v, fl v = (f v s.cpu.flags).2 := fun v => by rw [hf]
  rw [hi, hj]
  simp only [hg, hfl]
  exact ⟨rfl, fun _ _ _ h k => modifyHl_ok h k, fun _ _ h => modifyHl_fatal h,
    fun _ _ _ _ h k => modifyHl_fatal_write h k⟩

/-! ### The statements -/

/-- Settles O21: `addByte_eq` and `subByte_eq` for the arithmetic; the logic is as the model defines it. -/
theorem aluResult : Obligations.AluResult := by
  intro a x f k sum dif sumFlags difFlags
  have hsub : subByte a x 0 = (dif 0, difFlags 0) := subByte_eq a x (Nat.zero_le 1)
  exact ⟨addByte_eq a x 0, addByte_eq a x k, hsub, subByte_eq a x (bitNat_le_one f.c),
    congrArg (fun r => (a, r.2)) hsub, rfl, rfl, rfl⟩

/-- Settles O23: `daa_fst` with the adjustment of `daaAdjust_toNat`; the flags are the model's own, of that byte. -/
theorem decimalAdjust : Obligations.DecimalAdjust := by
  intro s
  refine ⟨rfl, rfl, ?_⟩
  intro a f adj v
  have hv : (daa (s.reg .a) f).1 = v := by
    rw [daa_fst, daaAdjust_toNat]
  rw [← hv]
  rfl

/-- Settles O20: one equation per operand form; the form at HL by the outcome of its read. -/
theorem aluForms : Obligations.AluForms := by
  intro op r n s d after
  exact ⟨(Instr.aluReg_hasBytes op r).encode, encode_aluMem op, encode_aluImm op n,
    ⟨tickCost_aluReg op r, tickCost_aluImm op, tickCost_aluMem op⟩, exec_aluReg op r s, exec_aluImm op n s,
    fun _ _ h => (exec_aluMem op s).trans (withByte_ok h), fun _ _ h => (exec_aluMem op s).trans (withByte_fatal h)⟩

/-- Settles O22: `exec_of_modify` at `incByte` and at `decByte`. -/
theorem incDecByte : Obligations.IncDecByte := by
  intro r s d up down
  refine ⟨⟨encode_incReg r, rfl, encode_decReg r, rfl⟩, ⟨tickCost_incReg r, rfl, tickCost_decReg r, rfl⟩, ?_⟩
  simp only [List.forall_mem_cons]
  exact ⟨exec_of_modify (fun v => incByte_eq v s.cpu.flags) (exec_incReg r s) rfl,
    exec_of_modify (fun v => decByte_eq v s.cpu.flags) (exec_decReg r s) rfl, List.forall_mem_nil _⟩

/-- Settles O24: each form executes the flag change that the model names for it (R200 to R202). -/
theorem complementCarry : Obligations.ComplementCarry := by
  intro s d
  exact ⟨rfl, rfl, rfl, ⟨rfl, rfl, rfl⟩, rfl, rfl, rfl⟩

end Sys2Proof.Machine
end

section
/-! PROOFS. The 16-bit arithmetic (43_alu16.md R206 to R210): the sums on exact integers, then what each instruction
executes by its pair code. -/

namespace Sys2Proof.Machine

/-! ### Sums and flags on exact integers -/

theorem low12_eq_mod (v : Word) : low12 v = v.toNat % 4096 := by
  unfold low12
  rw [BitVec.extractLsb'_toNat, Nat.shiftRight_zero]

theorem loByte_toNat (v : Word) : (loByte v).toNat = v.toNat % 256 := by
  unfold loByte
  rw [BitVec.extractLsb'_toNat, Nat.shiftRight_zero]

theorem nibble_loByte (v : Word) : nibble (loByte v) = v.toNat % 16 := by
  rw [nibble_eq_mod, loByte_toNat]
  exact Nat.mod_mod_of_dvd _ (by decide)

/-- Narrowing to a word is reduction modulo 65536 (00_scope.md R8). -/
theorem word_ofNat_mod (n : Nat) : BitVec.ofNat 16 (n % 65536) = BitVec.ofNat 16 n :=
  BitVec.eq_of_toNat_eq (Nat.mod_mod n 65536)

/-- The sum of two words; Z is not its to set (R208). -/
theorem addWord_eq (hl x : Word) (f : Flags) : addWord hl x f =
    (BitVec.ofNat 16 ((hl.toNat + x.toNat) % 65536),
      { f with n := false, h := decide (hl.toNat % 4096 + x.toNat % 4096 > 0x0FFF)
               c := decide (hl.toNat + x.toNat > 0xFFFF) }) := by
  simp only [addWord, word_ofNat_mod, low12_eq_mod]

/-- Sign extension is the signed value narrowed to a word, so adding it is adding that value. -/
theorem add_sext16 (v : Word) (e : Byte) : v + sext16 e = BitVec.ofInt 16 ((v.toNat : Int) + e.toInt) := by
  rw [BitVec.ofInt_add, BitVec.ofInt_natCast, BitVec.ofNat_toNat, BitVec.setWidth_eq]
  rfl

/-- SP and a signed byte; the flags are those of the unsigned byte added to SP's low byte (R209, R210). -/
theorem addSigned_eq (sp : Word) (e : Byte) : addSigned sp e =
    (BitVec.ofInt 16 ((sp.toNat : Int) + e.toInt),
      { z := false, n := false, h := decide (sp.toNat % 16 + e.toNat % 16 > 0xF)
        c := decide (sp.toNat % 256 + e.toNat > 0xFF) }) := by
  simp only [addSigned, add_sext16, nibble_loByte, nibble_eq_mod e, loByte_toNat]

/-! ### The instructions by pair code -/

section
variable (p : Pair) (s : State)

theorem exec_incPair : exec (.incPair p) s = stepPair (s.cost (0x03 + 16 * p.code) true) p 1 s := by
  cases p <;> rfl

theorem exec_decPair : exec (.decPair p) s = stepPair (s.cost (0x0B + 16 * p.code) true) p (-1) s := by
  cases p <;> rfl

theorem exec_addHlPair : exec (.addHlPair p) s = addHlPair (s.cost (0x09 + 16 * p.code) true) p s := by
  cases p <;> rfl

theorem encode_incPair : encode (.incPair p) = [BitVec.ofNat 8 (0x03 + 16 * p.code)] := by
  cases p <;> rfl

theorem encode_decPair : encode (.decPair p) = [BitVec.ofNat 8 (0x0B + 16 * p.code)] := by
  cases p <;> rfl

theorem encode_addHlPair : encode (.addHlPair p) = [BitVec.ofNat 8 (0x09 + 16 * p.code)] := by
  cases p <;> rfl

/-! ### Default ticks by pair code (70_reset_and_hazards.md R370) -/

theorem tickCost_incPair : Config.Params.default.tickCost (0x03 + 16 * p.code) true = 8 := by
  cases p <;> rfl

theorem tickCost_decPair : Config.Params.default.tickCost (0x0B + 16 * p.code) true = 8 := by
  cases p <;> rfl

theorem tickCost_addHlPair : Config.Params.default.tickCost (0x09 + 16 * p.code) true = 8 := by
  cases p <;> rfl

end

/-! ### The statements -/

/-- Settles O25: `stepPair` by 1 and by -1, `addWord_eq` for the sum in HL. -/
theorem pairArithmetic : Obligations.PairArithmetic := by
  intro p s d
  rw [BitVec.sub_eq_add_neg]
  refine ⟨encode_incPair p, encode_decPair p, ⟨tickCost_incPair p, tickCost_decPair p, tickCost_addHlPair p⟩,
    exec_incPair p s, exec_decPair p s, encode_addHlPair p, ?_⟩
  rw [exec_addHlPair, addHlPair, addWord_eq]
  rfl

/-- Settles O26: both forms store what `addSigned` gives, which `addSigned_eq` says on exact integers. -/
theorem addDisplacement : Obligations.AddDisplacement := by
  intro e s sum f
  have h : (sum, f) = addSigned s.cpu.sp e := (addSigned_eq s.cpu.sp e).symm
  have hsum : sum = (addSigned s.cpu.sp e).1 := congrArg Prod.fst h
  have hf : f = (addSigned s.cpu.sp e).2 := congrArg Prod.snd h
  rw [hsum, hf]
  exact ⟨rfl, rfl, ⟨rfl, rfl⟩, rfl, rfl⟩

end Sys2Proof.Machine
end

section
/-! PROOFS. The rotates, shifts and swap (44_rotate_shift.md R213 to R225): the results bit by bit, then what each
instruction executes by its operation and operand code. -/

namespace Sys2Proof.Machine

/-! ### Results bit by bit (44_rotate_shift.md R218 to R225) -/

theorem getLsbD_extractBit (v : Byte) (k : Nat) : (v.extractLsb' k 1).getLsbD 0 = v.getLsbD k := by simp

section
variable (v : Byte) {i : Nat} (hi : i < 8)
include hi

/-- A byte moved up by one: `x` comes in as bit 0. -/
theorem getLsbD_shiftUp (x : BitVec 1) : (v.extractLsb' 0 7 ++ x : Byte).getLsbD i =
    if i = 0 then x.getLsbD 0 else v.getLsbD (i - 1) := by
  rw [BitVec.getLsbD_append]
  obtain rfl | hpos := Nat.eq_zero_or_pos i
  · rfl
  · have h7 : i - 1 < 7 := by omega
    simp [h7, Nat.ne_of_gt hpos]

/-- A byte moved down by one: `x` comes in as bit 7. -/
theorem getLsbD_shiftDown (x : BitVec 1) : (x ++ v.extractLsb' 1 7 : Byte).getLsbD i =
    if i = 7 then x.getLsbD 0 else v.getLsbD (i + 1) := by
  rw [BitVec.getLsbD_append]
  by_cases hi7 : i = 7
  · subst hi7; rfl
  · have h7 : i < 7 := by omega
    simp [h7, hi7, Nat.add_comm]

theorem getLsbD_rotateUp : (v.extractLsb' 0 7 ++ v.extractLsb' 7 1 : Byte).getLsbD i = v.getLsbD ((i + 7) % 8) := by
  rw [getLsbD_shiftUp v hi, getLsbD_extractBit]
  split
  case isTrue h => subst h; rfl
  case isFalse h => rw [show (i + 7) % 8 = i - 1 by omega]

theorem getLsbD_rotateDown : (v.extractLsb' 0 1 ++ v.extractLsb' 1 7 : Byte).getLsbD i = v.getLsbD ((i + 1) % 8) := by
  rw [getLsbD_shiftDown v hi, getLsbD_extractBit]
  split
  case isTrue h => subst h; rfl
  case isFalse h => rw [show (i + 1) % 8 = i + 1 by omega]

theorem getLsbD_swapNibbles :
    (v.extractLsb' 0 4 ++ v.extractLsb' 4 4 : Byte).getLsbD i = v.getLsbD ((i + 4) % 8) := by
  rw [BitVec.getLsbD_append]
  split
  case isTrue h => simp [h, show (i + 4) % 8 = 4 + i by omega]
  case isFalse h =>
    simp [show i - 4 < 4 by omega, show (i + 4) % 8 = i - 4 by omega]

end

/-! ### The instructions by operation and operand code -/

section
variable (op : RotOp) (r : Reg8) (s : State)

theorem exec_rotReg : exec (.rotReg op r) s = rotReg (s.costSecondary (8 * op.code + r.code)) op r s := by
  cases op <;> cases r <;> rfl

theorem exec_rotMem : exec (.rotMem op) s = rotMem (s.costSecondary (8 * op.code + 6)) op s := by
  cases op <;> rfl

/-! ### Default ticks by operation and operand code (70_reset_and_hazards.md R370) -/

theorem tickCostSecondary_rotReg : Config.Params.default.tickCostSecondary (8 * op.code + r.code) = 8 := by
  cases op <;> cases r <;> rfl

theorem tickCostSecondary_rotMem : Config.Params.default.tickCostSecondary (8 * op.code + 6) = 16 := by
  cases op <;> rfl

end

/-! ### The statements -/

/-- Settles O27: one lemma for the moves up, one for the moves down, each at the bit that comes in; the carries and the
flags are the model's own. -/
theorem rotateResult : Obligations.RotateResult := by
  intro v f i hi bit
  have hsra := getLsbD_shiftDown v hi (v.extractLsb' 7 1)
  rw [getLsbD_extractBit] at hsra
  exact ⟨getLsbD_rotateUp v hi, rfl, getLsbD_rotateDown v hi, rfl,
    (getLsbD_shiftUp v hi (BitVec.ofBool f.c)).trans (by simp [bit]), rfl,
    (getLsbD_shiftDown v hi (BitVec.ofBool f.c)).trans (by simp [bit]), rfl,
    getLsbD_shiftUp v hi 0, rfl, hsra, rfl, getLsbD_shiftDown v hi 0, rfl,
    getLsbD_swapNibbles v hi, rfl, fun _ => ⟨rfl, rfl⟩⟩

/-- Settles O28: `exec_of_modify` at `rot op`; the compact forms are `modifyReg` at `rotA`. -/
theorem rotateForms : Obligations.RotateForms := by
  intro op r s d
  have hrot : ∀ v, rot op v s.cpu.flags = ((rot op v s.cpu.flags).1, (rot op v s.cpu.flags).2) := fun _ => rfl
  obtain ⟨hreg, hok, hread, hwrite⟩ := exec_of_modify hrot (exec_rotReg op r s) (exec_rotMem op s)
  refine ⟨(Instr.rotReg_hasBytes op r).encode, (Instr.rotMem_hasBytes op).encode,
    ⟨tickCostSecondary_rotReg op r, tickCostSecondary_rotMem op⟩, hreg, hok, hread, hwrite, ⟨rfl, rfl, rfl, rfl⟩, ?_⟩
  simp only [List.forall_mem_cons]
  exact ⟨⟨rfl, rfl⟩, ⟨rfl, rfl⟩, ⟨rfl, rfl⟩, ⟨rfl, rfl⟩, List.forall_mem_nil _⟩

end Sys2Proof.Machine
end

section
/-! PROOFS. The single-bit instructions (45_bit.md R235 to R241): what each executes by its bit and operand code. -/

namespace Sys2Proof.Machine

/-! ### The instructions by bit and operand code -/

section
variable (k : Fin 8) (r : Reg8) (s : State)

theorem exec_bitReg : exec (.bitReg k r) s = bitReg (s.costSecondary (0x40 + 8 * k.val + r.code)) k r s := by
  match k with
  | 0 | 1 | 2 | 3 | 4 | 5 | 6 | 7 => cases r <;> rfl

theorem exec_bitMem : exec (.bitMem k) s = bitMem (s.costSecondary (0x40 + 8 * k.val + 6)) k s :=
  match k with
  | 0 | 1 | 2 | 3 | 4 | 5 | 6 | 7 => rfl

theorem exec_resReg :
    exec (.resReg k r) s = changeReg (s.costSecondary (0x80 + 8 * k.val + r.code)) (bitRes k) r s := by
  match k with
  | 0 | 1 | 2 | 3 | 4 | 5 | 6 | 7 => cases r <;> rfl

theorem exec_resMem : exec (.resMem k) s = changeMem (s.costSecondary (0x80 + 8 * k.val + 6)) (bitRes k) s :=
  match k with
  | 0 | 1 | 2 | 3 | 4 | 5 | 6 | 7 => rfl

theorem exec_setReg :
    exec (.setReg k r) s = changeReg (s.costSecondary (0xC0 + 8 * k.val + r.code)) (bitSet k) r s := by
  match k with
  | 0 | 1 | 2 | 3 | 4 | 5 | 6 | 7 => cases r <;> rfl

theorem exec_setMem : exec (.setMem k) s = changeMem (s.costSecondary (0xC0 + 8 * k.val + 6)) (bitSet k) s :=
  match k with
  | 0 | 1 | 2 | 3 | 4 | 5 | 6 | 7 => rfl

end

/-! ### Default ticks by operand code (70_reset_and_hazards.md R370) -/

theorem tickCostSecondary_default (sub : Nat) :
    Config.Params.default.tickCostSecondary sub = Config.tickSecondary sub := by
  have hpos : 1 ≤ Config.tickSecondary sub := by
    unfold Config.tickSecondary
    split
    · decide
    · split <;> decide
  exact Nat.max_eq_right hpos

/-! `m` is the byte after 0xCB without its operand code. -/

section
variable {m : Nat} (hm : m % 8 = 0)
include hm

theorem tickCostSecondary_reg (r : Reg8) : Config.Params.default.tickCostSecondary (m + r.code) = 8 := by
  have hcode : r.code < 8 ∧ r.code ≠ 6 := by cases r <;> decide
  rw [tickCostSecondary_default]
  exact if_pos (by omega)

theorem tickCostSecondary_hl :
    Config.Params.default.tickCostSecondary (m + 6) = if m / 64 = 1 then 12 else 16 := by
  have hrow : (m + 6) / 64 = m / 64 := by omega
  rw [tickCostSecondary_default, ← hrow]
  exact if_neg (by omega)

end

/-! ### A byte changed in a register or at HL, the flags kept -/

/-- A change `g` of a byte that leaves the flags alone (R235): in register `r` by `i`, at HL by `j`. -/
theorem exec_of_change {i j : Instr} {r : Reg8} {s : State} {cost costHl : Nat} {g : Byte → Byte}
    (hi : exec i s = changeReg cost g r s) (hj : exec j s = changeMem costHl g s) :
    exec i s = .next ((s.setReg r (g (s.reg r))).tick cost) ∧
    (∀ v b c, s.bus.read s.hl = .ok v b → b.write s.hl (g v) = .ok () c →
      exec j s = .next ((s.setBus c).tick costHl)) ∧
    (∀ x b, s.bus.read s.hl = .fatal x b → exec j s = .next ((s.setBus b).raise (.cartridgeAccess x))) ∧
    (∀ v x b c, s.bus.read s.hl = .ok v b → b.write s.hl (g v) = .fatal x c →
      exec j s = .next ((s.setBus c).raise (.cartridgeAccess x))) :=
  exec_of_modify (f := fun v fl => (g v, fl)) (fun _ => rfl) hi hj

/-! ### The statements, in a namespace of their own: the model has a `bitTest` -/

namespace SingleBit

/-- Settles O29: one equation per form; the form at HL by the outcome of its read. -/
theorem bitTest : Obligations.BitTest := by
  intro k r s d
  have hk := k.isLt
  have hm : (0x40 + 8 * k.val) % 8 = 0 := by omega
  exact ⟨(Instr.bitReg_hasBytes k r).encode, (Instr.bitMem_hasBytes k).encode,
    ⟨tickCostSecondary_reg hm r, (tickCostSecondary_hl hm).trans (if_pos (by omega))⟩, exec_bitReg k r s,
    fun _ _ h => (exec_bitMem k s).trans (withByte_ok h), fun _ _ h => (exec_bitMem k s).trans (withByte_fatal h)⟩

/-- Settles O30: `exec_of_change` at `bitSet k` and at `bitRes k`. -/
theorem setResetBit : Obligations.SetResetBit := by
  intro k r s d
  have hset : (0xC0 + 8 * k.val) % 8 = 0 := by omega
  have hres : (0x80 + 8 * k.val) % 8 = 0 := by omega
  refine ⟨⟨(Instr.setReg_hasBytes k r).encode, (Instr.setMem_hasBytes k).encode, (Instr.resReg_hasBytes k r).encode,
    (Instr.resMem_hasBytes k).encode⟩, ?_⟩
  simp only [List.forall_mem_cons]
  refine ⟨⟨⟨tickCostSecondary_reg hset r, ?_⟩, exec_of_change (exec_setReg k r s) (exec_setMem k s)⟩,
    ⟨⟨tickCostSecondary_reg hres r, ?_⟩, exec_of_change (exec_resReg k r s) (exec_resMem k s)⟩,
    List.forall_mem_nil _⟩
  · exact (tickCostSecondary_hl hset).trans (if_neg (by omega))
  · exact (tickCostSecondary_hl hres).trans (if_neg (by omega))

end SingleBit

end Sys2Proof.Machine
end

section
/-! PROOFS. The control transfer (46_control.md R244 to R257): what each instruction executes by its condition or vector
code, then one lemma for all jumps, one for all calls and one for all returns. -/

namespace Sys2Proof.Machine

/-! ### The instructions by condition and vector code -/

section
variable (cc : Cond) (y : Fin 8) (nn : Word) (e : Byte) (s : State)

theorem exec_jpCond : exec (.jpCond cc nn) s = jumpCond (s.cost (0xC2 + 8 * cc.code)) cc nn s := by
  cases cc <;> rfl

theorem exec_jrCond :
    exec (.jrCond cc e) s = jumpRel (condHolds cc s.cpu.flags) (s.cost (0x20 + 8 * cc.code)) e s := by
  cases cc <;> rfl

theorem exec_callCond : exec (.callCond cc nn) s = callCond (s.cost (0xC4 + 8 * cc.code)) cc nn s := by
  cases cc <;> rfl

theorem exec_retCond : exec (.retCond cc) s = returnCond (s.cost (0xC0 + 8 * cc.code)) cc s := by
  cases cc <;> rfl

theorem exec_rst :
    exec (.rst y) s = callTo (s.cost (0xC7 + 8 * y.val) true) (BitVec.ofNat 16 (8 * y.val)) s :=
  match y with
  | 0 | 1 | 2 | 3 | 4 | 5 | 6 | 7 => rfl

theorem encode_jpCond : encode (.jpCond cc nn) = [BitVec.ofNat 8 (0xC2 + 8 * cc.code), loByte nn, hiByte nn] := by
  cases cc <;> rfl

theorem encode_jrCond : encode (.jrCond cc e) = [BitVec.ofNat 8 (0x20 + 8 * cc.code), e] := by
  cases cc <;> rfl

theorem encode_callCond :
    encode (.callCond cc nn) = [BitVec.ofNat 8 (0xC4 + 8 * cc.code), loByte nn, hiByte nn] := by
  cases cc <;> rfl

theorem encode_retCond : encode (.retCond cc) = [BitVec.ofNat 8 (0xC0 + 8 * cc.code)] := by
  cases cc <;> rfl

theorem encode_rst : encode (.rst y) = [BitVec.ofNat 8 (0xC7 + 8 * y.val)] :=
  match y with
  | 0 | 1 | 2 | 3 | 4 | 5 | 6 | 7 => rfl

/-! ### RET and RETI as pops (46_control.md R252, R254) -/

theorem exec_ret : exec .ret s = popWord (s.cost 0xC9 true) (fun v t => t.setPc v) s := rfl

theorem exec_reti : exec .reti s = popWord (s.cost 0xD9 true) (fun v t => (t.setPc v).setIme true) s := rfl

/-! ### Default ticks by condition and vector code (70_reset_and_hazards.md R370) -/

variable (taken : Bool)

theorem tickCost_jpCond :
    Config.Params.default.tickCost (0xC2 + 8 * cc.code) taken = if taken then 16 else 12 := by
  cases cc <;> cases taken <;> rfl

theorem tickCost_jrCond :
    Config.Params.default.tickCost (0x20 + 8 * cc.code) taken = if taken then 12 else 8 := by
  cases cc <;> cases taken <;> rfl

theorem tickCost_callCond :
    Config.Params.default.tickCost (0xC4 + 8 * cc.code) taken = if taken then 24 else 12 := by
  cases cc <;> cases taken <;> rfl

theorem tickCost_retCond :
    Config.Params.default.tickCost (0xC0 + 8 * cc.code) taken = if taken then 20 else 8 := by
  cases cc <;> cases taken <;> rfl

theorem tickCost_rst : Config.Params.default.tickCost (0xC7 + 8 * y.val) true = 16 :=
  match y with
  | 0 | 1 | 2 | 3 | 4 | 5 | 6 | 7 => rfl

end

/-! ### Jumps, calls and returns, taken and not -/

section
variable {s : State} {i : Instr} {cost : Nat} {costs : Bool → Nat} {cc : Cond} {v : Word}

theorem jumpIf_eq (taken : Bool) :
    jumpIf taken costs v s = .next (if taken then (s.setPc v).tick (costs true) else s.tick (costs false)) := by
  cases taken <;> rfl

theorem callCond_taken (h : condHolds cc s.cpu.flags = true) : callCond costs cc v s = callTo (costs true) v s :=
  if_pos h

theorem callCond_not_taken (h : condHolds cc s.cpu.flags = false) :
    callCond costs cc v s = .next (s.tick (costs false)) :=
  if_neg (Bool.eq_false_iff.mp h)

theorem returnCond_taken (h : condHolds cc s.cpu.flags = true) :
    returnCond costs cc s = popWord (costs true) (fun v t => t.setPc v) s :=
  if_pos h

theorem returnCond_not_taken (h : condHolds cc s.cpu.flags = false) :
    returnCond costs cc s = .next (s.tick (costs false)) :=
  if_neg (Bool.eq_false_iff.mp h)

theorem exec_of_callTo (hi : exec i s = callTo cost v s) :
    (∀ b c, s.bus.write (s.cpu.sp - 1) (hiByte s.cpu.pc) = .ok () b →
      b.write (s.cpu.sp - 2) (loByte s.cpu.pc) = .ok () c →
      exec i s = .next ((((s.setBus c).setSp (s.cpu.sp - 2)).setPc v).tick cost)) ∧
    (∀ w b, s.bus.write (s.cpu.sp - 1) (hiByte s.cpu.pc) = .fatal w b →
      exec i s = .next (((s.setBus b).setSp (s.cpu.sp - 1)).raise (.cartridgeAccess w))) ∧
    (∀ w b c, s.bus.write (s.cpu.sp - 1) (hiByte s.cpu.pc) = .ok () b →
      b.write (s.cpu.sp - 2) (loByte s.cpu.pc) = .fatal w c →
      exec i s = .next (((s.setBus c).setSp (s.cpu.sp - 2)).raise (.cartridgeAccess w))) :=
  ⟨fun _ _ h k => hi.trans (callTo_ok h k), fun _ _ h => hi.trans (callTo_fatal h),
    fun _ _ _ h k => hi.trans (callTo_fatal_second h k)⟩

/-- A return is a pop into PC that leaves IME at `ime`: at its old value (46_control.md R252) or set (R254). -/
theorem exec_of_return {f : Word → State → State} {ime : Bool} (hi : exec i s = popWord cost f s)
    (hf : ∀ v b sp, f v ((s.setBus b).setSp sp) = (((s.setBus b).setSp sp).setPc v).setIme ime) :
    (∀ l h b c, s.bus.read s.cpu.sp = .ok l b → b.read (s.cpu.sp + 1) = .ok h c →
      exec i s = .next (((((s.setBus c).setSp (s.cpu.sp + 2)).setPc (word h l)).setIme ime).tick cost)) ∧
    (∀ w b, s.bus.read s.cpu.sp = .fatal w b → exec i s = .next ((s.setBus b).raise (.cartridgeAccess w))) ∧
    (∀ l w b c, s.bus.read s.cpu.sp = .ok l b → b.read (s.cpu.sp + 1) = .fatal w c →
      exec i s = .next (((s.setBus c).setSp (s.cpu.sp + 1)).raise (.cartridgeAccess w))) :=
  ⟨fun _ _ _ _ hl hh => by rw [hi, popWord_ok hl hh, hf], exec_of_popWord_fatal hi⟩

end

/-! ### The statements -/

/-- Settles O31: every conditional jump is `jumpIf` at its condition; the others are as the model defines them. -/
theorem jumps : Obligations.Jumps := by
  intro nn e s d
  refine ⟨⟨rfl, rfl, rfl⟩, ⟨rfl, rfl, rfl⟩, rfl, rfl, rfl, ?_⟩
  intro cc taken jp jr
  exact ⟨⟨tickCost_jpCond cc true, tickCost_jpCond cc false, tickCost_jrCond cc true, tickCost_jrCond cc false⟩,
    encode_jpCond cc nn, encode_jrCond cc e, (exec_jpCond cc nn s).trans (jumpIf_eq _),
    (exec_jrCond cc e s).trans (jumpIf_eq _)⟩

/-- Settles O32: `exec_of_callTo` at CALL, at CALL cc where it is taken, and at RST. -/
theorem calls : Obligations.Calls := by
  intro nn cc y s d
  refine ⟨⟨rfl, encode_callCond cc nn, encode_rst y⟩, tickCost_callCond cc false,
    fun h => (exec_callCond cc nn s).trans (callCond_not_taken h), ?_⟩
  simp only [List.forall_mem_cons]
  refine ⟨⟨rfl, fun _ => exec_of_callTo rfl⟩, ⟨tickCost_callCond cc true, fun h => ?_⟩,
    ⟨tickCost_rst y, fun _ => exec_of_callTo (exec_rst y s)⟩, List.forall_mem_nil _⟩
  exact exec_of_callTo ((exec_callCond cc nn s).trans (callCond_taken h))

/-- Settles O33: `exec_of_return` at RET, at RET cc where it is taken, and at RETI. -/
theorem returns : Obligations.Returns := by
  intro cc s d
  refine ⟨⟨rfl, encode_retCond cc, rfl⟩, tickCost_retCond cc false,
    fun h => (exec_retCond cc s).trans (returnCond_not_taken h), ?_⟩
  simp only [List.forall_mem_cons]
  refine ⟨⟨rfl, fun _ => exec_of_return (exec_ret s) fun _ _ _ => rfl⟩, ⟨tickCost_retCond cc true, fun h => ?_⟩,
    ⟨rfl, fun _ => exec_of_return (exec_reti s) fun _ _ _ => rfl⟩, List.forall_mem_nil _⟩
  exact exec_of_return ((exec_retCond cc s).trans (returnCond_taken h)) fun _ _ _ => rfl

end Sys2Proof.Machine
end

section
/-! PROOFS. The system instructions (47_system.md R259 to R268): a Step by the instruction it fetches, the fetch under the
HALT quirk, and what selects an illegal opcode. -/

namespace Sys2Proof.Machine

/-! ### A read without side effect (20_memory.md R62) -/

theorem Bus.readable_and_value_of_peek {b : Bus} {a : Word} {v : Byte} (h : b.peek a = some v) :
    b.readable a = true ∧ b.value a = v := by
  unfold Bus.peek at h
  split at h
  case h_1 => cases h
  case h_2 n hr =>
    unfold Bus.readable Bus.value
    rw [hr]
    exact (Option.ite_none_right_eq_some.mp h).imp_right Option.some.inj
  case h_3 hc => exact ⟨b.readable_of_not_cart hc, Option.some.inj h⟩

theorem Bus.read_of_peek {b : Bus} {a : Word} {v : Byte} (h : b.peek a = some v) (hq : b.afterRead a = b) :
    b.read a = .ok v b := by
  obtain ⟨hr, hv⟩ := Bus.readable_and_value_of_peek h
  unfold Bus.read
  rw [if_pos hr, hv, hq]

/-! ### The fetch, by what the opcode selects -/

section
variable {s t u : State} {op : Byte}

/-- Where the read changes no bus, the opcode fetch moves PC, or clears the latch of the HALT quirk (R261). -/
theorem fetchOp_of_read (h : s.bus.read s.cpu.pc = .ok op s.bus) :
    fetchOp s = .ok op (if s.cpu.skipInc then s.setSkipInc false else s.setPc (s.cpu.pc + 1)) := by
  unfold fetchOp
  rw [memRead_ok h]
  rfl

theorem fetchInstr_of_op {i : Instr} (h : fetchOp s = .ok op t) (hd : decodeOp op = .op i) :
    fetchInstr s = .ok i t := by
  unfold fetchInstr
  simp only [h, Res.bind, hd]

theorem fetchInstr_of_n8 {f : Byte → Instr} {n : Byte} (h : fetchOp s = .ok op t) (hd : decodeOp op = .n8 f)
    (hn : fetch8 t = .ok n u) : fetchInstr s = .ok (f n) u := by
  unfold fetchInstr
  simp only [h, Res.bind, hd, hn]

theorem fetchInstr_of_n16 {f : Word → Instr} {nn : Word} (h : fetchOp s = .ok op t) (hd : decodeOp op = .n16 f)
    (hn : fetch16 t = .ok nn u) : fetchInstr s = .ok (f nn) u := by
  unfold fetchInstr
  simp only [h, Res.bind, hd, hn]

theorem fetchInstr_of_secondary {sub : Byte} (h : fetchOp s = .ok op t) (hd : decodeOp op = .secondary)
    (hn : fetch8 t = .ok sub u) : fetchInstr s = .ok (decodeSecondary sub) u := by
  unfold fetchInstr
  simp only [h, Res.bind, hd, hn]

end

/-! ### A Step that fetches (60_exceptions.md R290) -/

theorem State.dispatched_eq_none {s : State} (h : s.cpu.ime = false ∨ s.bus.pending = 0) : s.dispatched = none :=
  h.elim State.dispatched_of_ime_false State.dispatched_of_idle

theorem step_of_fetchInstr {s t : State} {i : Instr} (hf : s.cpu.fault = none) (hh : s.cpu.halted = false)
    (hs : s.cpu.stopped = false) (hi : s.cpu.ime = false ∨ s.bus.pending = 0) (h : fetchInstr s = .ok i t) :
    step s = exec i t := by
  unfold step
  simp only [hf, hh, hs, State.wake_of_running hh, State.dispatched_eq_none hi, h, Option.isSome_none, Bool.or_false,
    Bool.false_eq_true, if_false]

/-! ### HALT (R261) -/

theorem exec_halt (s : State) :
    exec .halt s = .next ((s.haltWith s.bus.cfg.haltWithIme0Halts).tick (s.cost 0x76 true)) := rfl

theorem State.haltWith_eq (s : State) (halts : Bool) : s.haltWith halts =
    if s.haltQuirk then if halts then (s.setHalted true).setSkipInc true else s.setSkipInc true
    else s.setHalted true := by
  unfold State.haltWith
  cases s.haltQuirk <;> cases halts <;> rfl

theorem State.haltWith_skipInc (s : State) (halts : Bool) :
    (s.haltWith halts).cpu.skipInc = (s.cpu.skipInc || s.haltQuirk) := by
  rw [State.haltWith_eq]
  cases s.haltQuirk <;> cases halts <;> simp

theorem State.haltWith_pc (s : State) (halts : Bool) : (s.haltWith halts).cpu.pc = s.cpu.pc := by
  rw [State.haltWith_eq]
  cases s.haltQuirk <;> cases halts <;> rfl

theorem State.haltQuirk_of_idle {s : State} (hi : s.cpu.ime = false) (hp : s.bus.pending = 0) : s.haltQuirk = true := by
  unfold State.haltQuirk
  rw [hi, hp]
  rfl

theorem State.haltQuirk_of_ime {s : State} (hi : s.cpu.ime = true) : s.haltQuirk = false := by
  unfold State.haltQuirk
  rw [hi]
  rfl

/-! ### The illegal opcodes (R268; 30_encoding.md R133) -/

theorem decodeOp_illegal_iff (op : Byte) : decodeOp op = .op (.illegal op) ↔ op ∈ Config.illegalOpcodes := by
  constructor
  · intro h
    have hF := decodeOp_faithful op
    rw [h] at hF
    cases hF with
    | op hi => exact List.contains_iff_mem.mp hi.wellFormed
  · revert op
    simp only [Config.illegalOpcodes, List.forall_mem_cons]
    exact ⟨rfl, rfl, rfl, rfl, rfl, rfl, rfl, rfl, rfl, rfl, rfl, List.forall_mem_nil _⟩

/-- What 0xCB leads to is encoded in two bytes, an illegal opcode in one. -/
theorem decodeSecondary_ne_illegal (sub op : Byte) : decodeSecondary sub ≠ .illegal op := by
  intro h
  have hb := (decodeSecondary_hasBytes sub).encode
  rw [h] at hb
  cases hb

/-! ### The statements -/

/-- Settles O5: HALT by `State.haltWith_skipInc`; the latch armed, PC stays on the opcode byte (`fetchOp_of_read`), so the
operand fetch reads it again. -/
theorem haltQuirkFetch : Obligations.HaltQuirkFetch := by
  constructor
  · intro s t e
    cases (exec_halt s).symm.trans e
    refine ⟨fun hi hp => ⟨?_, s.haltWith_pc _⟩, fun hi => ?_⟩ <;> rw [State.tick_skipInc, State.haltWith_skipInc]
    · rw [State.haltQuirk_of_idle hi hp, Bool.or_true]
    · rw [State.haltQuirk_of_ime hi, Bool.or_false]
  · intro s v hf hh hs hi hq hv hb
    have hr : s.bus.read s.cpu.pc = .ok v s.bus := Bus.read_of_peek hv hb
    have hop : fetchOp s = .ok v (s.setSkipInc false) := fetchOp_quirk hr hq
    have hn : fetch8 (s.setSkipInc false) = .ok v ((s.setSkipInc false).setPc (s.cpu.pc + 1)) :=
      fetch8_ok (s := s.setSkipInc false) hr
    refine ⟨fun i hd => ?_, fun f hd => ?_, fun f w hd hw hbw => ?_, fun hcb => ?_⟩ <;>
      apply step_of_fetchInstr hf hh hs hi
    · exact fetchInstr_of_op hop hd
    · exact fetchInstr_of_n8 hop hd hn
    · refine fetchInstr_of_n16 hop hd ?_
      rw [← sp_add_two]
      exact fetch16_ok (s := s.setSkipInc false) hr (Bus.read_of_peek hw hbw)
    · subst hcb
      exact fetchInstr_of_secondary hop rfl hn

/-- Settles O9: `decodeOp_illegal_iff` for the bytes; a Step that fetches one executes it where the opcode fetch left PC. -/
theorem illegalOpcode : Obligations.IllegalOpcode := by
  refine fun op s => ⟨decodeOp_illegal_iff op, fun op' => decodeSecondary_ne_illegal op op', rfl, ?_⟩
  intro hd hf hh hs hi hv hb
  exact step_of_fetchInstr hf hh hs hi (fetchInstr_of_op (fetchOp_of_read (Bus.read_of_peek hv hb)) hd)

/-- Settles O34: each form executes the state change that the model names for it (R259, R262 to R264). -/
theorem systemInstructions : Obligations.SystemInstructions :=
  fun _ _ => ⟨⟨rfl, rfl, rfl, rfl⟩, ⟨rfl, rfl, rfl, rfl⟩, rfl, rfl, rfl, rfl⟩

/-- Settles O35 by `State.haltWith_eq`, whose quirk condition the statement spells out. -/
theorem haltInstruction : Obligations.HaltInstruction := by
  refine fun s => ⟨rfl, rfl, rfl, ?_⟩
  rw [exec_halt, State.haltWith_eq]
  rfl

end Sys2Proof.Machine
end

section
/-! PROOFS. A line rendered through the tile caches (60_exceptions.md R324 to R329): what recomputing entries leaves in a
cache, which entries a line reads, and that no byte access clears a dirty flag. -/

namespace Sys2Proof.Machine

/-! ### Recomputing the entries of a cache (R324) -/

section
variable {α : Type} {tile : Nat → List α} {keys : List Nat} {m : List (Nat × List α)} {n : Nat}

/-- A valid entry stays, a dirty one is recomputed where its key is asked for. -/
theorem lookup_refresh (tile : Nat → List α) (keys : List Nat) (m : List (Nat × List α)) (k : Nat) :
    Cells.lookup (refresh tile keys m) k =
      (Cells.lookup m k).or (if k ∈ keys then some (tile k) else none) := by
  induction keys generalizing m with
  | nil => simp [refresh]
  | cons j keys ih =>
    unfold refresh
    rw [ih]
    cases hj : Cells.lookup m j with
    | some t =>
      by_cases hk : k = j
      · subst hk
        simp [hj]
      · simp [hk]
    | none =>
      simp only [Cells.lookup_insert _ _ _ _ hj]
      by_cases hk : k = j
      · subst hk
        simp [hj]
      · simp [hk]

/-- Every entry listed is one of a number below `n`, and is what that number decodes to. -/
def TilesCurrent (tile : Nat → List α) (n : Nat) (m : List (Nat × List α)) : Prop :=
  ∀ k t, Cells.lookup m k = some t → k < n ∧ t = tile k

theorem TilesCurrent.refresh (h : TilesCurrent tile n m) (hkeys : ∀ k ∈ keys, k < n) :
    TilesCurrent tile n (refresh tile keys m) := by
  intro k t hk
  rw [lookup_refresh] at hk
  rcases Option.or_eq_some_iff.mp hk with hm | ⟨_, hnew⟩
  · exact h k t hm
  · obtain ⟨hmem, ht⟩ := Option.ite_none_right_eq_some.mp hnew
    exact ⟨hkeys k hmem, (Option.some.inj ht).symm⟩

theorem TilesCurrent.lookup_refresh_of_mem (h : TilesCurrent tile n m) {k : Nat} (hk : k ∈ keys) :
    Cells.lookup (Machine.refresh tile keys m) k = some (tile k) := by
  rw [lookup_refresh, if_pos hk]
  cases hm : Cells.lookup m k with
  | none => rfl
  | some t => rw [(h k t hm).2]; rfl

theorem wfFrom_refresh [DecidableEq α] (htile : ∀ k, tile k ≠ []) (h : Cells.wfFrom [] 0 m = true) :
    Cells.wfFrom [] 0 (refresh tile keys m) = true := by
  induction keys generalizing m with
  | nil => exact h
  | cons j keys ih =>
    unfold refresh
    cases hj : Cells.lookup m j with
    | some t => exact ih h
    | none => exact ih (Cells.wfFrom_insert [] 0 m j _ (Nat.zero_le j) (htile j) hj h)

/-- A pixel of an entry that lists 64 pixels row by row. -/
theorem cachedPixel_of_lookup {f : Nat → Nat → α} {k r c : Nat} (d : α)
    (h : Cells.lookup m k = some ((List.range 64).map fun j => f (j / 8) (j % 8))) (hr : r < 8) (hc : c < 8) :
    cachedPixel m k r c d = f r c := by
  unfold cachedPixel
  rw [h, Option.getD_some, List.getD_eq_getElem?_getD, List.getElem?_map, List.getElem?_range (by omega)]
  show f ((8 * r + c) / 8) ((8 * r + c) % 8) = f r c
  rw [show (8 * r + c) / 8 = r by omega, show (8 * r + c) % 8 = c by omega]

end

theorem bgTile_ne_nil (vram : Memory) (io : IoRegs) (sel : Bool) (k : Nat) : bgTile vram io sel k ≠ [] := by
  simp [bgTile]

theorem objTile_ne_nil (vram : Memory) (io : IoRegs) (t : Nat) : objTile vram io t ≠ [] := by
  simp [objTile]

/-! ### The entries that a line uses (R326 to R328) -/

theorem cellOf_lt {py px : Nat} (hy : py < 256) (hx : px < 256) : cellOf py px < 1024 := by
  unfold cellOf
  omega

theorem usedBgCells_lt {io : IoRegs} {y : Nat} : ∀ k ∈ usedBgCells io y, k < 1024 := by
  intro k hk
  unfold usedBgCells at hk
  split at hk
  · obtain ⟨x, _, rfl⟩ := List.mem_map.mp hk
    exact cellOf_lt (Nat.mod_lt _ (by decide)) (Nat.mod_lt _ (by decide))
  · cases hk

theorem usedWindowCells_lt {io : IoRegs} {y : Nat} (hy : y < 144) : ∀ k ∈ usedWindowCells io y, k < 1024 := by
  intro k hk
  unfold usedWindowCells at hk
  split at hk
  · obtain ⟨x, hx, rfl⟩ := List.mem_map.mp hk
    have hx := List.mem_range.mp (List.mem_filter.mp hx).1
    unfold Config.screenW at hx
    exact cellOf_lt (by unfold winRow; omega) (by unfold winCol; omega)
  · cases hk

theorem even_tile_le (v : Byte) : (v &&& 0xFE).toNat ≤ 254 := by
  rw [BitVec.toNat_and]
  exact Nat.and_le_right

theorem SpriteEntry.row_lt {e : SpriteEntry} {io : IoRegs} {y : Nat} (h : e.covers io y = true) :
    e.row io y < spriteHeight io := by
  simp only [SpriteEntry.covers, Bool.and_eq_true, decide_eq_true_eq] at h
  unfold SpriteEntry.row
  dsimp only
  split <;> omega

/-- The second tile of a tall sprite is one of the 256 too: the first is even. -/
theorem SpriteEntry.tileAt_lt {e : SpriteEntry} {io : IoRegs} {y : Nat} (h : e.covers io y = true) :
    e.tileAt io (e.row io y) < 256 := by
  have hr := SpriteEntry.row_lt h
  unfold spriteHeight at hr
  unfold SpriteEntry.tileAt
  have htile := e.tile.isLt
  have heven := even_tile_le e.tile
  split <;> rename_i hl
  · rw [if_pos hl] at hr
    omega
  · rw [if_neg hl] at hr
    omega

theorem usedSpriteTiles_lt {b : Bus} {y : Nat} : ∀ k ∈ usedSpriteTiles b y, k < 256 := by
  intro k hk
  unfold usedSpriteTiles at hk
  split at hk
  · obtain ⟨e, he, rfl⟩ := List.mem_map.mp hk
    exact SpriteEntry.tileAt_lt (List.mem_filter.mp he).2
  · cases hk

/-! ### What a line does to the bus -/

theorem Bus.renderLine_frame (b : Bus) (sense : Config.PrioritySense) (y : Nat) :
    b.renderLine sense y = { b with fb := (b.renderLine sense y).fb, caches := (b.renderLine sense y).caches } := rfl

theorem Bus.renderLine_row (b : Bus) (sense : Config.PrioritySense) (y z : Nat) :
    Cells.read (blankLine b.cfg) (b.renderLine sense y).fb z =
      if z = y then linePixels (.cached (refreshedCaches b y)) b sense y else Cells.read (blankLine b.cfg) b.fb z :=
  Cells.read_write _ _ _ _ _

theorem refreshedCaches_current {b : Bus} {y : Nat} (hy : y < 144) (h : b.cachesCurrent) :
    { b with caches := refreshedCaches b y }.cachesCurrent := by
  obtain ⟨hbg, hwin, hobj⟩ := h
  exact ⟨TilesCurrent.refresh hbg usedBgCells_lt, TilesCurrent.refresh hwin (usedWindowCells_lt hy),
    TilesCurrent.refresh hobj usedSpriteTiles_lt⟩

theorem Bus.Inv.renderLine {b : Bus} (h : b.Inv) (sense : Config.PrioritySense) {y : Nat} (hy : y < 144) :
    (b.renderLine sense y).Inv := by
  have hp := h.picture
  simp only [Bus.pictureFits, Bool.and_eq_true] at hp
  obtain ⟨⟨⟨⟨hbg, hwin⟩, hobj⟩, hfb⟩, hrows⟩ := hp
  refine ⟨h.storage, h.palettes, h.banks, refreshedCaches_current hy h.caches, ?_, h.wave, h.mixer⟩
  simp only [Bus.pictureFits, Bool.and_eq_true]
  exact ⟨⟨⟨⟨wfFrom_refresh (bgTile_ne_nil _ _ _) hbg, wfFrom_refresh (bgTile_ne_nil _ _ _) hwin⟩,
    wfFrom_refresh (objTile_ne_nil _ _) hobj⟩, Cells.wfFrom_write _ _ _ _ hfb⟩, Cells.below_write _ _ _ _ _ hy hrows⟩

/-! ### The pixels of a line (R324) -/

theorem SpriteEntry.col_lt {e : SpriteEntry} {x : Nat} (hc : e.hasColumn x = true) : e.col x < 8 := by
  simp only [SpriteEntry.hasColumn, Bool.and_eq_true, decide_eq_true_eq] at hc
  unfold SpriteEntry.col
  dsimp only
  split <;> omega

section
variable {b : Bus} {y : Nat} (h : b.cachesCurrent)
include h

/-- With the LCD on, the entries that the background and the window show at a pixel are among those recomputed. -/
theorem layerPixel_cached (hon : b.io.lcdc.getLsbD 7 = true) {x : Nat} (hx : x < Config.screenW) :
    layerPixel (.cached (refreshedCaches b y)) b.io y x = layerPixel (.direct b) b.io y x := by
  obtain ⟨hbg, hwin, _⟩ := h
  have hx := List.mem_range.mpr hx
  unfold layerPixel
  split
  · rename_i hw
    have hmem : cellOf (winRow b.io y) (winCol b.io x) ∈ usedWindowCells b.io y := by
      unfold usedWindowCells
      rw [if_pos hon]
      exact List.mem_map_of_mem (List.mem_filter.mpr ⟨hx, hw⟩)
    exact cachedPixel_of_lookup _ (TilesCurrent.lookup_refresh_of_mem hwin hmem) (Nat.mod_lt _ (by decide))
      (Nat.mod_lt _ (by decide))
  split
  · rename_i hb
    have hmem : cellOf (bgRow b.io y) (bgCol b.io x) ∈ usedBgCells b.io y := by
      unfold usedBgCells
      rw [hon, hb]
      exact List.mem_map_of_mem hx
    exact cachedPixel_of_lookup _ (TilesCurrent.lookup_refresh_of_mem hbg hmem) (Nat.mod_lt _ (by decide))
      (Nat.mod_lt _ (by decide))
  · rfl

/-- With the LCD and the sprites on, the tile that a sprite shows on a line it covers is among those recomputed. -/
theorem SpriteEntry.over_cached (hon : b.io.lcdc.getLsbD 7 = true) (hobj : b.io.lcdc.getLsbD 1 = true) {i : Nat}
    (hi : i < Config.nSprites) (sense : Config.PrioritySense) (layer : BgPixel) (x : Nat) (acc : BitVec 32) :
    (spriteEntry b.oam i).over (.cached (refreshedCaches b y)) b.cfg b.io sense layer y x acc =
      (spriteEntry b.oam i).over (.direct b) b.cfg b.io sense layer y x acc := by
  obtain ⟨_, _, hcur⟩ := h
  have hi := List.mem_range.mpr hi
  generalize he : spriteEntry b.oam i = e
  unfold SpriteEntry.over
  by_cases hc : (e.covers b.io y && e.hasColumn x) = true
  · rw [if_pos hc, if_pos hc]
    rw [Bool.and_eq_true] at hc
    obtain ⟨hrow, hcol⟩ := hc
    have hmem : e.tileAt b.io (e.row b.io y) ∈ usedSpriteTiles b y := by
      unfold usedSpriteTiles
      rw [hon, hobj]
      exact List.mem_map_of_mem (f := fun e : SpriteEntry => e.tileAt b.io (e.row b.io y))
        (List.mem_filter.mpr ⟨he ▸ List.mem_map_of_mem (f := spriteEntry b.oam) hi, hrow⟩)
    have hpx : (TileSource.cached (refreshedCaches b y)).sprite (e.tileAt b.io (e.row b.io y)) (e.row b.io y % 8)
        (e.col x) = (TileSource.direct b).sprite (e.tileAt b.io (e.row b.io y)) (e.row b.io y % 8) (e.col x) :=
      cachedPixel_of_lookup _ (TilesCurrent.lookup_refresh_of_mem hcur hmem) (Nat.mod_lt _ (by decide))
        (SpriteEntry.col_lt hcol)
    simp only [hpx]
  · rw [if_neg hc, if_neg hc]

theorem drawSprites_cached (hon : b.io.lcdc.getLsbD 7 = true) (hobj : b.io.lcdc.getLsbD 1 = true) {n : Nat}
    (hn : n ≤ Config.nSprites) (sense : Config.PrioritySense) (layer : BgPixel) (x : Nat) (acc : BitVec 32) :
    drawSprites (.cached (refreshedCaches b y)) b sense layer y x n acc =
      drawSprites (.direct b) b sense layer y x n acc := by
  induction n generalizing acc with
  | zero => rfl
  | succ n ih =>
    unfold drawSprites
    rw [SpriteEntry.over_cached h hon hobj hn, ih (Nat.le_of_succ_le hn)]

theorem pixelColour_cached (sense : Config.PrioritySense) {x : Nat} (hx : x < Config.screenW) :
    pixelColour (.cached (refreshedCaches b y)) b sense y x = pixelColour (.direct b) b sense y x := by
  unfold pixelColour
  split
  · rename_i hon
    rw [layerPixel_cached h hon hx]
    dsimp only
    split
    · rename_i hobj
      exact drawSprites_cached h hon hobj (Nat.le_refl _) sense _ x _
    · rfl
  · rfl

theorem linePixels_cached (sense : Config.PrioritySense) :
    linePixels (.cached (refreshedCaches b y)) b sense y = linePixels (.direct b) b sense y :=
  List.map_congr_left fun _ hx => pixelColour_cached h sense (List.mem_range.mp hx)

end

/-! ### No access clears a dirty flag -/

/-- Every entry of `c` is an entry of `d` too: of the dirty flags that `d` has set, `c` has cleared none (log 3). -/
def TileCaches.Within (c d : TileCaches) : Prop :=
  ∀ k, (∀ x, Cells.lookup c.bg k = some x → Cells.lookup d.bg k = some x) ∧
    (∀ x, Cells.lookup c.window k = some x → Cells.lookup d.window k = some x) ∧
    (∀ x, Cells.lookup c.sprite k = some x → Cells.lookup d.sprite k = some x)

theorem TileCaches.Within.refl (c : TileCaches) : c.Within c := fun _ => ⟨fun _ h => h, fun _ h => h, fun _ h => h⟩

theorem TileCaches.Within.trans {c d e : TileCaches} (h : c.Within d) (h' : d.Within e) : c.Within e := fun k =>
  have ⟨hbg, hwin, hobj⟩ := h k
  have ⟨hbg', hwin', hobj'⟩ := h' k
  ⟨fun x hx => hbg' x (hbg x hx), fun x hx => hwin' x (hwin x hx), fun x hx => hobj' x (hobj x hx)⟩

theorem TileCaches.dirtyBackground_within (c : TileCaches) : c.dirtyBackground.Within c :=
  fun _ => ⟨fun _ h => (nomatch h), fun _ h => (nomatch h), fun _ h => h⟩

theorem TileCaches.dirtySprites_within (c : TileCaches) : c.dirtySprites.Within c :=
  fun _ => ⟨fun _ h => h, fun _ h => h, fun _ h => (nomatch h)⟩

theorem Cells.lookup_of_erase {α : Type} {m : List (Nat × α)} {j k : Nat} {x : α}
    (h : Cells.lookup (Cells.erase m j) k = some x) : Cells.lookup m k = some x := by
  rw [Cells.lookup_erase] at h
  exact (Option.ite_none_left_eq_some.mp h).2

theorem lookup_of_keepOtherTiles {vram : Memory} {lcdc : Byte} {sel : Bool} {t k : Nat} {x : List BgPixel}
    {m : List (Nat × List BgPixel)} (h : Cells.lookup (keepOtherTiles vram lcdc sel t m) k = some x) :
    Cells.lookup m k = some x :=
  (Cells.lookup_filter m (fun j => bgTileBase lcdc (mapEntry vram sel j) / 16 ≠ t) k x h).1

theorem TileCaches.vramDirty_within (c : TileCaches) (vram : Memory) (lcdc : Byte) (o : Nat) :
    (c.vramDirty vram lcdc o).Within c := by
  intro k
  unfold TileCaches.vramDirty
  split
  · exact ⟨fun _ => lookup_of_keepOtherTiles, fun _ => lookup_of_keepOtherTiles, fun _ => Cells.lookup_of_erase⟩
  · refine ⟨fun x hx => ?_, fun x hx => ?_, fun _ hx => hx⟩ <;> dsimp only at hx <;> split at hx
    · exact Cells.lookup_of_erase hx
    · exact hx
    · exact Cells.lookup_of_erase hx
    · exact hx

theorem Bus.afterRead_caches (b : Bus) (a : Word) : (b.afterRead a).caches.Within b.caches := by
  unfold Bus.afterRead
  split
  · exact b.caches.dirtyBackground_within
  · exact b.caches.dirtySprites_within
  · exact b.caches.dirtySprites_within
  · exact .refl _
  · exact .refl _

theorem Bus.read_caches (b : Bus) (a : Word) : (b.read a).after.caches.Within b.caches := by
  unfold Bus.read
  split
  · exact b.afterRead_caches a
  · exact .refl _

theorem Bus.ioWrite_caches (b : Bus) (r : IoReg) (v : Byte) : (b.ioWrite r v).caches.Within b.caches := by
  cases r with
  | lcdc =>
    show (b.writeLcdc v).caches.Within b.caches
    unfold Bus.writeLcdc
    dsimp only
    split
    · exact b.caches.dirtyBackground_within
    · exact .refl _
  | bgp => exact b.caches.dirtyBackground_within
  | obp0 | obp1 => exact b.caches.dirtySprites_within
  | _ => exact .refl _

theorem Bus.write_caches (b : Bus) (a : Word) (v : Byte) : (b.write a v).after.caches.Within b.caches := by
  unfold Bus.write
  split
  · unfold Bus.writeCart
    split <;> exact .refl _
  · exact b.caches.vramDirty_within _ _ _
  · exact .refl _
  · exact .refl _
  · exact .refl _
  · exact .refl _
  · exact dmaCopy_keeps (fun c => c.caches.Within b.caches) (fun c x h => (c.read_caches x).trans h) (fun _ _ h => h)
      v _ 0 (b.ioWrite_caches .dma v)
  · exact b.ioWrite_caches _ v
  · exact .refl _

theorem step_caches {s t : State} (e : step s = .next t) : t.bus.caches.Within s.bus.caches :=
  step_keeps (fun b => b.caches.Within s.bus.caches) (fun b a h => (b.read_caches a).trans h)
    (fun b a v h => (b.write_caches a v).trans h) (fun _ _ h => h) e (.refl _)

/-- Settles O55: the entries a line reads are among those it recomputes (`linePixels_cached`), `lookup_refresh` says which
those are; a Step goes through byte accesses, which can only set dirty flags (`step_caches`). -/
theorem cachedRenderIsDirect : Obligations.CachedRenderIsDirect := by
  refine ⟨fun b sense y h hy => ⟨b.renderLine_frame sense y, ?_, fun z hz => ?_, lookup_refresh _ _ _,
    lookup_refresh _ _ _, lookup_refresh _ _ _, h.renderLine sense hy⟩, fun s t e => step_caches e⟩
  · rw [b.renderLine_row, if_pos rfl, linePixels_cached h.caches]
  · rw [b.renderLine_row, if_neg hz]

end Sys2Proof.Machine
end

section
/-! PROOFS. The invariant of the machine, kept by every Step, by the driver's operations and by every call of the host
(60_exceptions.md R349; 70_reset_and_hazards.md R362). -/

namespace Sys2Proof.Machine

/-! ### A Step, and the machine at reset -/

/-- Settles O56: a Step goes through byte accesses and acknowledgements alone, and each keeps the invariant. -/
theorem stepKeepsInvariant : Obligations.StepKeepsInvariant :=
  fun _ _ h e =>
    step_keeps Bus.Inv (fun _ a h => h.read a) (fun _ a v h => h.write a v) (fun _ i h => h.acknowledge i) e h

/-- Settles O59: the default record is legal, and the blank cartridge stores nothing. -/
theorem resetKeepsInvariant : Obligations.ResetKeepsInvariant :=
  Bus.atReset_inv Reset.default_legal .blank rfl rfl rfl

/-! ### What an operation of the driver keeps -/

/-- From one bus to another the invariant and the parameters of the machine are kept. -/
structure Bus.Keeps (b c : Bus) : Prop where
  inv : b.Inv → c.Inv
  cfg : c.cfg = b.cfg

theorem Bus.Keeps.refl (b : Bus) : b.Keeps b := ⟨id, rfl⟩

theorem Bus.Keeps.trans {b c d : Bus} (h : b.Keeps c) (k : c.Keeps d) : b.Keeps d :=
  ⟨fun hb => k.inv (h.inv hb), k.cfg.trans h.cfg⟩

/-! ### Timers (R320, R321) and the registers that the driver writes (R313 to R316) -/

theorem Bus.request_keeps (b : Bus) (i : Fin 5) : b.Keeps (b.request i) := ⟨fun h => h.request i, rfl⟩

theorem Bus.setDrv_keeps (b : Bus) (d : Driver) : b.Keeps { b with drv := d } := ⟨fun h => h.setDrv d, rfl⟩

theorem Bus.countTima_keeps (b : Bus) : b.Keeps b.countTima := by
  unfold Bus.countTima
  split
  · exact ⟨fun h => Bus.Inv.request (h.setIo { b.io with tima := b.io.tma } rfl rfl rfl rfl) 2, rfl⟩
  · exact ⟨fun h => h.setIo _ rfl rfl rfl rfl, rfl⟩

theorem Bus.countTimaBy_keeps (b : Bus) (n : Nat) : b.Keeps (b.countTimaBy n) := by
  induction n generalizing b with
  | zero => exact .refl b
  | succ n ih => exact b.countTima_keeps.trans (ih _)

theorem Bus.advanceDiv_keeps (b : Bus) (n : Nat) : b.Keeps (b.advanceDiv n) :=
  .trans ⟨fun h => h.setIo { b.io with div := (b.advanceDiv n).io.div } rfl rfl rfl rfl, rfl⟩ (Bus.setDrv_keeps _ _)

theorem Bus.advanceTima_keeps (b : Bus) (n : Nat) : b.Keeps (b.advanceTima n) := by
  unfold Bus.advanceTima
  dsimp only
  split
  · exact (b.setDrv_keeps _).trans (Bus.countTimaBy_keeps _ _)
  · exact .refl b

theorem Bus.timerAdvance_keeps (b : Bus) (n : Nat) : b.Keeps (b.timerAdvance n) :=
  (b.advanceDiv_keeps n).trans (Bus.advanceTima_keeps _ n)

theorem Bus.setMode_keeps (b : Bus) (v : BitVec 2) : b.Keeps (b.setMode v) :=
  ⟨fun h => h.setIo _ rfl rfl rfl rfl, rfl⟩

theorem Bus.setLy_keeps (b : Bus) (y : Nat) : b.Keeps (b.setLy y) := ⟨fun h => h.setIo _ rfl rfl rfl rfl, rfl⟩

theorem Bus.startOamSearch_keeps (b : Bus) (y : Nat) : b.Keeps (b.startOamSearch y) := by
  have h := (b.setLy_keeps y).trans (Bus.setMode_keeps _ 2)
  unfold Bus.startOamSearch
  dsimp only
  split
  · exact h.trans (Bus.request_keeps _ 1)
  · exact h

theorem Bus.startHBlank_keeps (b : Bus) : b.Keeps b.startHBlank := by
  unfold Bus.startHBlank
  dsimp only
  split
  · exact (b.setMode_keeps 0).trans (Bus.request_keeps _ 1)
  · exact b.setMode_keeps 0

theorem Bus.startVBlankLine_keeps (b : Bus) (y : Nat) : b.Keeps (b.startVBlankLine y) := by
  unfold Bus.startVBlankLine
  dsimp only
  split
  · exact ((b.setLy_keeps y).trans (Bus.setMode_keeps _ 1)).trans (Bus.request_keeps _ 0)
  · exact b.setLy_keeps y

theorem Bus.endVisibleLine_keeps (b : Bus) (render : Bool) {y : Nat} (hy : y < 144) :
    b.Keeps (b.endVisibleLine render y) := by
  unfold Bus.endVisibleLine
  dsimp only
  split
  · exact .trans ⟨fun h => h.renderLine _ hy, rfl⟩ (Bus.timerAdvance_keeps _ _)
  · exact b.timerAdvance_keeps _

/-! ### Phases and lines (R312 to R318) -/

theorem stepped_busKeeps (s : State) : s.bus.Keeps s.stepped.bus where
  inv := stepped_keeps Bus.Inv (fun _ a h => h.read a) (fun _ a v h => h.write a v) fun _ i h => h.acknowledge i
  cfg := stepped_cfg s

/-- A property that every Step keeps is kept by a phase's loop. -/
theorem stepUntil_keeps (P : State → Prop) (hP : ∀ t, P t → P t.stepped) (fuel start target : Nat) {s : State}
    (h : P s) : P (s.stepUntil fuel start target) := by
  induction fuel generalizing s with
  | zero => exact h
  | succ fuel ih =>
    unfold State.stepUntil
    split
    · exact ih (hP s h)
    · exact h

theorem stepUntil_busKeeps (fuel start target : Nat) (s : State) :
    s.bus.Keeps (s.stepUntil fuel start target).bus :=
  stepUntil_keeps (fun t => s.bus.Keeps t.bus) (fun t h => h.trans (stepped_busKeeps t)) fuel start target (.refl _)

/-- A part of a frame, left out after a fatal error (R272). -/
theorem Bus.Keeps.unlessFault {b : Bus} {s : State} {f : State → State} (h : b.Keeps s.bus)
    (hf : ∀ t : State, t.bus.Keeps (f t).bus) : b.Keeps (s.unlessFault f).bus := by
  unfold State.unlessFault
  split
  · exact h
  · exact h.trans (hf s)

theorem runPhase_busKeeps (budget : Nat) (s : State) : s.bus.Keeps (s.runPhase budget).bus :=
  (stepUntil_busKeeps _ _ _ s).unlessFault fun t => t.bus.setDrv_keeps _

theorem visibleLine_busKeeps (render : Bool) {y : Nat} (hy : y < 144) (s : State) :
    s.bus.Keeps (s.visibleLine render y).bus := by
  unfold State.visibleLine
  refine .unlessFault (.unlessFault (.unlessFault (.unlessFault (.unlessFault (.unlessFault (.unlessFault (.refl _)
    ?_) ?_) ?_) ?_) ?_) ?_) ?_ <;> intro t
  · exact t.bus.startOamSearch_keeps y
  · exact runPhase_busKeeps _ t
  · exact t.bus.setMode_keeps 3
  · exact runPhase_busKeeps _ t
  · exact t.bus.startHBlank_keeps
  · exact runPhase_busKeeps _ t
  · exact t.bus.endVisibleLine_keeps render hy

theorem vblankLine_busKeeps (y : Nat) (s : State) : s.bus.Keeps (s.vblankLine y).bus := by
  unfold State.vblankLine
  refine .unlessFault (.unlessFault (.unlessFault (.refl _) ?_) ?_) ?_ <;> intro t
  · exact t.bus.startVBlankLine_keeps y
  · exact runPhase_busKeeps _ t
  · exact t.bus.timerAdvance_keeps _

theorem runLines_busKeeps {line : Nat → State → State} {n y : Nat}
    (hline : ∀ z, z < y + n → ∀ t : State, t.bus.Keeps (line z t).bus) (s : State) :
    s.bus.Keeps (runLines line n y s).bus := by
  induction n generalizing y s with
  | zero => exact .refl _
  | succ n ih => exact (hline y (by omega) s).trans (ih (fun z hz => hline z (by omega)) _)

theorem frameLines_busKeeps (render : Bool) (s : State) : s.bus.Keeps (s.frameLines render).bus :=
  (runLines_busKeeps (fun _ hz t => visibleLine_busKeeps render (Nat.zero_add 144 ▸ hz) t) s).trans
    (runLines_busKeeps (fun z _ t => vblankLine_busKeeps z t) _)

/-! ### Playback (R344 to R348) -/

/-- The outputs that a channel goes to (R342). -/
def Voice.routing (c : Voice) : Bool × Bool := (c.toLeft, c.toRight)

theorem Voice.countLength_routing (c : Voice) (n : Nat) : (c.countLength.advance n).routing = c.routing := by
  unfold Voice.countLength
  split <;> rfl

theorem ToneChannel.playOn_routing (c : ToneChannel) (rate : Nat) (buf : Buffer) :
    (c.playOn rate buf).1.voice.routing = c.voice.routing := c.voice.countLength_routing buf.length

theorem ToneChannel.play_routing (c : ToneChannel) (rate : Nat) (buf : Buffer) :
    (c.play rate buf).1.voice.routing = c.voice.routing := by
  unfold ToneChannel.play
  split
  · rfl
  · exact c.playOn_routing rate buf

theorem WaveChannel.play_settings (c : WaveChannel) (rate : Nat) (buf : Buffer) :
    (c.play rate buf).1.voice.routing = c.voice.routing ∧ (c.play rate buf).1.wave = c.wave := by
  unfold WaveChannel.play
  split
  · exact ⟨rfl, rfl⟩
  · exact ⟨c.voice.countLength_routing buf.length, rfl⟩

theorem NoiseChannel.play_routing (c : NoiseChannel) (rate : Nat) (buf : Buffer) :
    (c.play rate buf).1.voice.routing = c.voice.routing := by
  unfold NoiseChannel.play
  split
  · rfl
  · exact c.voice.countLength_routing buf.length

/-- What the registers fix of the generators and playback leaves: channel 3's samples, the volumes, the routing. -/
def Sound.settings (s : Sound) : List (Nat × BitVec 4) × (BitVec 3 × BitVec 3) × List (Bool × Bool) :=
  (s.ch3.wave, (s.volLeft, s.volRight),
    [s.ch1.voice.routing, s.ch2.voice.routing, s.ch3.voice.routing, s.ch4.voice.routing])

theorem Sound.play1_settings (s : Sound) (rate : Nat) (buf : Buffer) : (s.play1 rate buf).1.settings = s.settings := by
  unfold Sound.play1
  split
  · rfl
  · unfold Sound.settings
    simp only [ToneChannel.playOn_routing]

theorem Sound.playAll_settings (s : Sound) (rate : Nat) (buf : Buffer) :
    (s.playAll rate buf).1.settings = s.settings := by
  rw [← s.play1_settings rate buf]
  unfold Sound.playAll Sound.settings
  dsimp only
  rw [ToneChannel.play_routing, NoiseChannel.play_routing, (WaveChannel.play_settings _ _ _).1,
    (WaveChannel.play_settings _ _ _).2]

theorem Bus.Inv.setSnd {b : Bus} (h : b.Inv) {snd : Sound} (e : snd.settings = b.snd.settings) :
    { b with snd := snd }.Inv := by
  simp only [Sound.settings, Voice.routing, Prod.mk.injEq, List.cons.injEq] at e
  obtain ⟨hwave, ⟨hleft, hright⟩, ⟨l1, r1⟩, ⟨l2, r2⟩, ⟨l3, r3⟩, ⟨l4, r4⟩, _⟩ := e
  obtain ⟨m1, m2, m3, m4, m5, m6⟩ := h.mixer
  refine ⟨?_, h.palettes, h.banks, h.caches, h.picture, fun k => ?_, hleft.trans m1, hright.trans m2,
    ⟨l1.trans m3.1, r1.trans m3.2⟩, ⟨l2.trans m4.1, r2.trans m4.2⟩, ⟨l3.trans m5.1, r3.trans m5.2⟩,
    ⟨l4.trans m6.1, r4.trans m6.2⟩⟩
  · have hs := h.storage
    unfold Bus.storageFits at hs ⊢
    rwa [hwave]
  · have hk := h.wave k
    rwa [← hwave] at hk

/-! ### The frame and the host's calls -/

theorem endFrame_busKeeps (pcm : List Int → List Byte) (render : Bool) (s : State) :
    s.bus.Keeps (s.endFrame pcm render).1.bus := by
  unfold State.endFrame
  split
  · exact .refl _
  · exact ⟨fun h => (h.setSnd (Sound.playAll_settings _ _ _)).setDraws _, rfl⟩

theorem runFrame_busKeeps (pcm : List Int → List Byte) (s : State) : s.bus.Keeps (runFrame pcm s).1.bus := by
  unfold runFrame
  split
  · exact .refl _
  · have hdraws : s.bus.Keeps (s.onBus fun b => { b with draws := b.draws + 1 }).bus := ⟨fun h => h.setDraws _, rfl⟩
    exact (hdraws.trans (frameLines_busKeeps _ _)).trans (endFrame_busKeeps pcm _ _)

theorem setInput_busKeeps (k : Button) (p : Bool) (s : State) : s.bus.Keeps (setInput k p s).bus := by
  refine (Bus.Keeps.refl s.bus).unlessFault fun t => ?_
  have hpressed : t.bus.Keeps { t.bus with pressed := t.bus.pressed.set k p } := ⟨fun h => h.setPressed _, rfl⟩
  dsimp only
  split
  · exact hpressed.trans (Bus.request_keeps _ 4)
  · exact hpressed

theorem hostCall_busKeeps (pcm : List Int → List Byte) (c : HostCall) (s : State) : s.bus.Keeps (c.run pcm s).bus := by
  cases c with
  | step => exact stepped_busKeeps s
  | runFrame => exact runFrame_busKeeps pcm s
  | setInput k p => exact setInput_busKeeps k p s

theorem runCalls_busKeeps (pcm : List Int → List Byte) (calls : List HostCall) (s : State) :
    s.bus.Keeps (runCalls pcm calls s).bus := by
  induction calls generalizing s with
  | nil => exact .refl _
  | cons c calls ih => exact (hostCall_busKeeps pcm c s).trans (ih _)

/-- Settles O57, by induction on the calls (`runCalls_busKeeps`). -/
theorem hostCallsKeepInvariant : Obligations.HostCallsKeepInvariant :=
  fun pcm calls s h => ⟨(runCalls_busKeeps pcm calls s).inv h, (runCalls_busKeeps pcm calls s).cfg⟩

end Sys2Proof.Machine
end

section
/-! PROOFS. The encoder writes what the decoder reads (30_encoding.md R136), and a Step runs what is decoded at PC
(60_exceptions.md R290): the bytes of an instruction by what its opcode selects. -/

namespace Sys2Proof

/-! ### The bytes of an instruction -/

/-- The encoding of an instruction as the decoder takes it apart: the opcode alone, an operand byte or word for what the
opcode selects, or a byte of the secondary map. -/
inductive Instr.Encoded (i : Instr) : Prop where
  | op {op : Byte} (he : encode i = [op]) (hd : decodeOp op = .op i)
  | n8 {op n : Byte} {f : Byte → Instr} (he : encode i = [op, n]) (hd : decodeOp op = .n8 f) (hi : f n = i)
  | n16 {op : Byte} {nn : Word} {f : Word → Instr} (he : encode i = [op, loByte nn, hiByte nn])
    (hd : decodeOp op = .n16 f) (hi : f nn = i)
  | secondary {sub : Byte} (he : encode i = [0xCB, sub]) (hi : decodeSecondary sub = i)

/-- The opcodes are those of the table's rows, so the decoder is evaluated on one opcode for each constructor. -/
theorem Instr.encoded {i : Instr} (h : i.wellFormed = true) : i.Encoded := by
  cases i with
  | illegal op => exact .op rfl ((Machine.decodeOp_illegal_iff op).mpr (List.contains_iff_mem.mp h))
  | ld_b_n | ld_c_n | stop | ld_d_n | jr_e | ld_e_n | jr_nz_e | ld_h_n | jr_z_e | ld_l_n | jr_nc_e | ld_mhl_n
    | jr_c_e | ld_a_n | add_a_n | adc_a_n | sub_n | sbc_a_n | ldh_mn_a | and_n | add_sp_e | xor_n | ldh_a_mn
    | or_n | ld_hl_sp_e | cp_n =>
    exact .n8 rfl rfl rfl
  | ld_bc_nn | ld_mnn_sp | ld_de_nn | ld_hl_nn | ld_sp_nn | jp_nz_nn | jp_nn | call_nz_nn | jp_z_nn | call_z_nn
    | call_nn | jp_nc_nn | call_nc_nn | jp_c_nn | call_c_nn | ld_mnn_a | ld_a_mnn =>
    exact .n16 rfl rfl rfl
  | nop | ld_mbc_a | inc_bc | inc_b | dec_b | rlca | add_hl_bc | ld_a_mbc | dec_bc | inc_c | dec_c | rrca
    | ld_mde_a | inc_de | inc_d | dec_d | rla | add_hl_de | ld_a_mde | dec_de | inc_e | dec_e | rra | ld_mhli_a
    | inc_hl | inc_h | dec_h | daa | add_hl_hl | ld_a_mhli | dec_hl | inc_l | dec_l | cpl | ld_mhld_a | inc_sp
    | inc_mhl | dec_mhl | scf | add_hl_sp | ld_a_mhld | dec_sp | inc_a | dec_a | ccf | ld_b_b | ld_b_c | ld_b_d
    | ld_b_e | ld_b_h | ld_b_l | ld_b_mhl | ld_b_a | ld_c_b | ld_c_c | ld_c_d | ld_c_e | ld_c_h | ld_c_l
    | ld_c_mhl | ld_c_a | ld_d_b | ld_d_c | ld_d_d | ld_d_e | ld_d_h | ld_d_l | ld_d_mhl | ld_d_a | ld_e_b
    | ld_e_c | ld_e_d | ld_e_e | ld_e_h | ld_e_l | ld_e_mhl | ld_e_a | ld_h_b | ld_h_c | ld_h_d | ld_h_e | ld_h_h
    | ld_h_l | ld_h_mhl | ld_h_a | ld_l_b | ld_l_c | ld_l_d | ld_l_e | ld_l_h | ld_l_l | ld_l_mhl | ld_l_a
    | ld_mhl_b | ld_mhl_c | ld_mhl_d | ld_mhl_e | ld_mhl_h | ld_mhl_l | halt | ld_mhl_a | ld_a_b | ld_a_c | ld_a_d
    | ld_a_e | ld_a_h | ld_a_l | ld_a_mhl | ld_a_a | add_a_b | add_a_c | add_a_d | add_a_e | add_a_h | add_a_l
    | add_a_mhl | add_a_a | adc_a_b | adc_a_c | adc_a_d | adc_a_e | adc_a_h | adc_a_l | adc_a_mhl | adc_a_a
    | sub_b | sub_c | sub_d | sub_e | sub_h | sub_l | sub_mhl | sub_a | sbc_a_b | sbc_a_c | sbc_a_d | sbc_a_e
    | sbc_a_h | sbc_a_l | sbc_a_mhl | sbc_a_a | and_b | and_c | and_d | and_e | and_h | and_l | and_mhl | and_a
    | xor_b | xor_c | xor_d | xor_e | xor_h | xor_l | xor_mhl | xor_a | or_b | or_c | or_d | or_e | or_h | or_l
    | or_mhl | or_a | cp_b | cp_c | cp_d | cp_e | cp_h | cp_l | cp_mhl | cp_a | ret_nz | pop_bc | push_bc | rst_00
    | ret_z | ret | rst_08 | ret_nc | pop_de | push_de | rst_10 | ret_c | reti | rst_18 | pop_hl | ldh_mc_a
    | push_hl | rst_20 | jp_hl | rst_28 | pop_af | ldh_a_mc | di | push_af | rst_30 | ld_sp_hl | ei | rst_38 =>
    exact .op rfl rfl
  | _ => exact .secondary rfl rfl

/-! ### The statements about the decoder -/

/-- Settles O2: by what the opcode of the instruction selects (`Instr.encoded`). -/
theorem decodeEncode : Obligations.DecodeEncode := by
  intro i rest h
  cases Instr.encoded h with
  | op he hd => rw [he]; exact decode_of_op rest hd
  | n8 he hd hi => rw [he, ← hi]; exact decode_of_n8 rest hd _
  | @n16 op nn f he hd hi =>
    rw [he, ← hi]
    exact (decode_of_n16 rest hd _ _).trans (by rw [Machine.word_parts])
  | secondary he hi => rw [he, ← hi]; exact decode_of_secondary rest rfl _

/-- Settles O1: each word is the encoding of its instruction, which `decodeEncode` decodes. -/
theorem decodeWords : Obligations.DecodeWords :=
  ⟨decodeEncode .ld_a_b [] rfl, decodeEncode (.ld_a_n 0x42) [0x76] rfl, decodeEncode (.ld_mhl_n 0x07) [] rfl,
    decodeEncode (.ld_a_mnn 0xFF44) [] rfl, decodeEncode (.ld_hl_nn 0x1234) [] rfl,
    decodeEncode (.ld_mnn_sp 0xC100) [] rfl, decodeEncode .push_bc [] rfl, decodeEncode .adc_a_e [] rfl,
    decodeEncode (.or_n 0x03) [] rfl, decodeEncode .dec_mhl [] rfl, decodeEncode (.add_sp_e 0x02) [] rfl,
    decodeEncode .rlca [] rfl, decodeEncode .swap_a [] rfl, decodeEncode .bit_4_l [] rfl,
    decodeEncode .set_3_mhl [] rfl, decodeEncode .res_7_a [] rfl, decodeEncode (.jr_nz_e 0xFC) [] rfl,
    decodeEncode (.call_nn 0x2000) [] rfl, decodeEncode .rst_28 [] rfl, decodeEncode .halt [] rfl,
    decodeEncode (.stop 0x00) [] rfl, decodeEncode (.illegal 0xDD) [] rfl⟩

end Sys2Proof

namespace Sys2Proof.Machine

/-! ### The fetch of an encoding -/

/-- Where the bytes of an instruction stand at PC, in bytes whose reading has no side effect, the fetch gives it. -/
theorem fetchInstr_of_encoded {s : State} {i : Instr} (h : i.Encoded) (hq : s.cpu.skipInc = false)
    (hb : ∀ k v, (encode i)[k]? = some v → s.bus.read (s.cpu.pc + BitVec.ofNat 16 k) = .ok v s.bus) :
    fetchInstr s = .ok i (s.setPc (s.cpu.pc + BitVec.ofNat 16 (encode i).length)) := by
  have hfirst : ∀ op, (encode i)[0]? = some op → fetchOp s = .ok op (s.setPc (s.cpu.pc + 1)) := fun op h =>
    fetchOp_ok (by simpa using hb 0 op h) hq
  have hsecond : ∀ n, (encode i)[1]? = some n → s.bus.read (s.cpu.pc + 1) = .ok n s.bus := fun n h => hb 1 n h
  have hthird : ∀ n, (encode i)[2]? = some n → s.bus.read (s.cpu.pc + 1 + 1) = .ok n s.bus := fun n h =>
    sp_add_two s.cpu.pc ▸ hb 2 n h
  cases h with
  | op he hd =>
    rw [he] at hfirst ⊢
    exact fetchInstr_of_op (hfirst _ rfl) hd
  | n8 he hd hi =>
    rw [he] at hfirst hsecond ⊢
    rw [← hi]
    refine (fetchInstr_of_n8 (hfirst _ rfl) hd (fetch8_ok (hsecond _ rfl))).trans ?_
    rw [State.setPc_pc, sp_add_two]
    rfl
  | n16 he hd hi =>
    rw [he] at hfirst hsecond hthird ⊢
    rw [← hi]
    refine (fetchInstr_of_n16 (hfirst _ rfl) hd (fetch16_ok (hsecond _ rfl) (hthird _ rfl))).trans ?_
    rw [word_parts, State.setPc_pc, BitVec.add_assoc, BitVec.add_assoc]
    rfl
  | secondary he hi =>
    rw [he] at hfirst hsecond ⊢
    rw [← hi]
    refine (fetchInstr_of_secondary (hfirst _ rfl) rfl (fetch8_ok (hsecond _ rfl))).trans ?_
    rw [State.setPc_pc, sp_add_two]
    rfl

/-- Settles O4: the bytes at PC are read without a side effect, so the fetch gives the instruction they encode. -/
theorem stepRunsDecoded : Obligations.StepRunsDecoded := by
  refine fun s hf hh hs hi => ⟨fun i hwf hq hb => ?_, fun i t ht => step_of_fetchInstr hf hh hs hi ht⟩
  refine step_of_fetchInstr hf hh hs hi (fetchInstr_of_encoded (Instr.encoded hwf) hq fun k v hk => ?_)
  obtain ⟨hlen, rfl⟩ := List.getElem?_eq_some_iff.mp hk
  exact Bus.read_of_peek (hb k hlen).1 (hb k hlen).2

end Sys2Proof.Machine
end

section
/-! PROOFS. A Step and its interrupts (60_exceptions.md R271 to R303): the refused fetch, the source that is taken, the
whole of taking it, waiting and waking. -/

namespace Sys2Proof.Machine

/-! ### A Step that cannot fetch (R271, R276) -/

theorem Bus.read_of_not_readable {b : Bus} {a : Word} (h : b.readable a = false) : b.read a = .fatal a b :=
  if_neg (Bool.eq_false_iff.mp h)

theorem fetchInstr_of_not_readable {s : State} (h : s.bus.readable s.cpu.pc = false) :
    fetchInstr s = .fatal (s.raise (.cartridgeAccess s.cpu.pc)) := by
  unfold fetchInstr
  rw [fetchOp_fatal (Bus.read_of_not_readable h)]
  rfl

theorem step_of_fetchInstr_fatal {s t : State} (hf : s.cpu.fault = none) (hh : s.cpu.halted = false)
    (hs : s.cpu.stopped = false) (hi : s.cpu.ime = false ∨ s.bus.pending = 0) (h : fetchInstr s = .fatal t) :
    step s = .next t := by
  unfold step
  simp only [hf, hh, hs, State.wake_of_running hh, State.dispatched_eq_none hi, h, Option.isSome_none, Bool.or_false,
    Bool.false_eq_true, if_false]

/-- Settles O7: `step_ends`, `exec_ends` for the next states; the fetch of a byte that the cartridge refuses ends at
once. -/
theorem stepNeverStops : Obligations.StepNeverStops := by
  refine ⟨fun s => ?_, fun i s => ?_, fun s hf hh hs hi hr => ?_⟩
  · obtain ⟨t, e, _⟩ := step_ends s
    exact ⟨t, e⟩
  · obtain ⟨t, e, _⟩ := exec_ends i s
    exact ⟨t, e⟩
  · exact step_of_fetchInstr_fatal hf hh hs hi (fetchInstr_of_not_readable hr)

/-! ### The source that is taken (R284, R291) -/

/-- The first source is the lowest bit that is set. -/
theorem firstSource_eq_some {p : BitVec 5} {i : Fin 5} (hi : p.getLsbD i.val = true)
    (hlow : ∀ j : Fin 5, j < i → p.getLsbD j.val = false) : firstSource p = some i := by
  revert p i
  decide

theorem Bus.pending_getLsbD (b : Bus) (j : Fin 5) :
    b.pending.getLsbD j.val = (b.io.ie.getLsbD j.val && b.io.ifl.getLsbD j.val) := by
  unfold Bus.pending
  rw [BitVec.getLsbD_and, BitVec.getLsbD_extractLsb', decide_eq_true j.isLt, Bool.true_and, Nat.zero_add]

theorem State.dispatched_of_ime {s : State} (h : s.cpu.ime = true) : s.dispatched = firstSource s.bus.pending :=
  if_pos h

theorem Bus.pending_eq_zero {b : Bus} (h : ∀ j : Fin 5, (b.io.ie.getLsbD j.val && b.io.ifl.getLsbD j.val) = false) :
    b.pending = 0 :=
  BitVec.eq_of_getLsbD_eq fun j hj => (b.pending_getLsbD ⟨j, hj⟩).trans ((h ⟨j, hj⟩).trans BitVec.getLsbD_zero.symm)

/-- The state in which a dispatch pushes PC: what R293 clears is cleared. -/
def State.taken (s : State) (i : Fin 5) : State :=
  (((s.setBus (s.bus.acknowledge i)).setIme false).setHalted false).setStopped false

/-- Past what it clears, a dispatch is a call of its vector. -/
theorem takeInterrupt_eq_callTo (i : Fin 5) (s : State) :
    takeInterrupt i s = callTo s.bus.cfg.dispatchTicks (Config.intVector i) (s.taken i) := rfl

/-- A call whose push is not refused ends at its target. -/
theorem callTo_pc {cost : Nat} {v : Word} {s t : State} (e : callTo cost v s = .next t) (ht : t.cpu.fault = none) :
    t.cpu.pc = v := by
  unfold callTo at e
  have hcalm := push16_calm s.cpu.pc s
  generalize push16 s.cpu.pc s = r at hcalm e
  cases r with
  | ok _ u => cases e; rfl
  | fatal u =>
    cases e
    obtain ⟨_, _, hfault⟩ := hcalm
    rw [ht] at hfault
    cases hfault

/-- Settles O10: the pending sources are the bits set in both registers, and `firstSource` is the lowest of them. -/
theorem interruptPriority : Obligations.InterruptPriority := by
  refine fun s hf => ⟨fun i hime hi hlow => ?_, fun hnone => ?_, State.dispatched_of_ime_false⟩
  · have hd : s.dispatched = some i := (State.dispatched_of_ime hime).trans
      (firstSource_eq_some ((s.bus.pending_getLsbD i).trans hi) fun j hj => (s.bus.pending_getLsbD j).trans (hlow j hj))
    have hstep := step_of_dispatched hf hd
    exact ⟨hstep, fun t e => callTo_pc (hstep.symm.trans e)⟩
  · exact State.dispatched_of_idle (Bus.pending_eq_zero hnone)

/-! ### Taking an interrupt (R293) -/

/-- The wake rule clears what a dispatch clears. -/
theorem takeInterrupt_wake (i : Fin 5) (s : State) : takeInterrupt i s.wake = takeInterrupt i s := by
  unfold State.wake
  split <;> rfl

/-- Settles O11: the Step is a dispatch, a call whose push succeeds or is refused at its first or its second byte. -/
theorem interruptDispatch : Obligations.InterruptDispatch := by
  refine ⟨rfl, fun s i hf hime hfirst => ?_⟩
  have hstep : step s = takeInterrupt i s :=
    (step_of_dispatched hf ((State.dispatched_of_ime hime).trans hfirst)).trans (takeInterrupt_wake i s)
  rw [hstep, takeInterrupt_eq_callTo]
  exact ⟨fun _ _ h k => callTo_ok (s := s.taken i) h k, fun _ _ h => callTo_fatal (s := s.taken i) h,
    fun _ _ _ h k => callTo_fatal_second (s := s.taken i) h k⟩

/-! ### Waiting and waking (R292, R303) -/

theorem step_of_stopped_idle {s : State} (hf : s.cpu.fault = none) (hs : s.cpu.stopped = true)
    (hh : s.cpu.halted = false) (hi : s.cpu.ime = false ∨ s.bus.pending = 0) :
    step s = .next (s.tick s.bus.cfg.idleTicks) := by
  unfold step
  simp only [hf, hs, State.wake_of_running hh, State.dispatched_eq_none hi, Option.isSome_none, Bool.or_true,
    Bool.false_eq_true, if_false, if_true]

/-- Settles O12: an idle period is the branch of a Step that neither dispatches nor fetches; waking is `step_wake`. -/
theorem idleAndWake : Obligations.IdleAndWake := by
  refine ⟨rfl, fun s hf => ⟨step_of_halted_idle hf, step_of_stopped_idle hf, fun hh hp => ?_⟩⟩
  rw [← State.wake_of_pending hh hp, step_wake hf]

end Sys2Proof.Machine
end

section
/-! PROOFS. The host's input (60_exceptions.md R340), the trigger of channel 1 (R342, R343) and the state after reset
(70_reset_and_hazards.md R352). -/

namespace Sys2Proof.Machine

theorem State.unlessFault_of_none {s : State} (h : s.cpu.fault = none) (f : State → State) : s.unlessFault f = f s := by
  unfold State.unlessFault
  rw [h]
  rfl

/-- Settles O51: a press is a change from released to pressed; any other call stores the button alone. -/
theorem setInputPress : Obligations.SetInputPress := by
  intro k p s hf
  have hset : setInput k p s = if (!s.bus.pressed.get k && p) = true then
      { cpu := { s.cpu with stopped := false }
        bus := { s.bus with
          pressed := s.bus.pressed.set k p, io := { s.bus.io with ifl := s.bus.io.ifl ||| 0b10000#5 } } }
      else { s with bus := { s.bus with pressed := s.bus.pressed.set k p } } :=
    State.unlessFault_of_none hf _
  rw [hset]
  simp only [Bool.and_eq_true, Bool.not_eq_true']

/-- Settles O50: the write stores the byte (`Bus.write_io`), and the trigger bit decides whether the channel restarts. -/
theorem soundRestart : Obligations.SoundRestart := by
  refine ⟨fun _ _ => rfl, fun b v => (b.write_io (r := .sound .nr14) v rfl nofun).trans (congrArg (Access.ok ()) ?_)⟩
  show b.writeSound .nr14 v = _
  unfold Bus.writeSound Sound.load ToneChannel.loadFreqHigh
  rfl

/-- Settles O60: the fields of the default reset record, around a cartridge without banks. -/
theorem resetState : Obligations.ResetState :=
  ⟨rfl, rfl, rfl, rfl, rfl, rfl, rfl, rfl, rfl, rfl, rfl, rfl, rfl, rfl, rfl, rfl⟩

end Sys2Proof.Machine
end

section
/-! PROOFS. What instructions leave in memory (40_load8.md to 47_system.md): an instruction that stores nothing leaves
every byte, one that stores leaves the bytes its stores do not reach. -/

namespace Sys2Proof.Machine

/-! ### Operations that leave a byte -/

/-- The byte at `x` reads after an operation as it did in `s`. -/
def Res.Leaves {α : Type} (r : Res α) (s : State) (x : Word) : Prop := r.state.bus.peek x = s.bus.peek x

/-- The byte at `x` reads after an instruction as it did in `s`. -/
def OutLeaves (s : State) (x : Word) (o : Out) : Prop := ∀ t, o = .next t → t.bus.peek x = s.bus.peek x

section
variable {s : State} {x a v w : Word} {cost : Nat}

theorem Res.Leaves.bind {α β : Type} {r : Res α} {f : α → State → Res β} (h : r.Leaves s x)
    (hf : ∀ y t, r = .ok y t → (f y t).Leaves t x) : (r.bind f).Leaves s x := by
  cases r with
  | ok y t => exact (hf y t rfl).trans h
  | fatal t => exact h

/-- What follows an operation but goes to no memory. -/
theorem Res.Leaves.bind_ok {α : Type} {r : Res α} {f : α → State → State} (h : r.Leaves s x)
    (hf : ∀ y t, (f y t).bus = t.bus) : (r.bind fun y t => .ok () (f y t)).Leaves s x :=
  h.bind fun y t _ => congrArg (fun b : Bus => b.peek x) (hf y t)

theorem Res.Leaves.finish {r : Res Unit} (h : r.Leaves s x) : OutLeaves s x (r.finish cost) := by
  cases r with
  | ok y t => intro u e; cases e; exact h
  | fatal t => intro u e; cases e; exact h

theorem OutLeaves.of_eq {o o' : Out} (e : o = o') (h : OutLeaves s x o') : OutLeaves s x o := e ▸ h

theorem memRead_leaves (a : Word) (s : State) (x : Word) : (memRead a s).Leaves s x := by
  have h := s.bus.peek_read a x
  unfold memRead
  cases e : s.bus.read a <;> rw [e] at h <;> exact h

theorem memWrite_leaves {y : Byte} (h : s.bus.storeReaches a x = false) : (memWrite a y s).Leaves s x := by
  have h := s.bus.peek_write a x y h
  unfold memWrite
  cases e : s.bus.write a y <;> rw [e] at h <;> exact h

theorem pop16_leaves (s : State) (x : Word) : (pop16 s).Leaves s x :=
  (memRead_leaves _ s x).bind fun _ t _ =>
    (memRead_leaves _ (t.setSp (t.cpu.sp + 1)) x).bind fun _ _ _ => rfl

/-! ### The shapes of the instructions that store nothing -/

theorem done_leaves {t : State} (h : t.bus = s.bus) : OutLeaves s x (done cost t) := by
  intro u e
  cases e
  exact congrArg (fun b : Bus => b.peek x) h

theorem withByte_leaves {f : Byte → State → State} (hf : ∀ y t, (f y t).bus = t.bus) :
    OutLeaves s x (withByte cost a f s) :=
  ((memRead_leaves a s x).bind_ok hf).finish

theorem popWord_leaves {f : Word → State → State} (hf : ∀ y t, (f y t).bus = t.bus) :
    OutLeaves s x (popWord cost f s) :=
  ((pop16_leaves s x).bind_ok hf).finish

theorem jumpIf_leaves {taken : Bool} {costs : Bool → Nat} : OutLeaves s x (jumpIf taken costs v s) := by
  cases taken <;> exact done_leaves rfl

theorem returnCond_leaves {cc : Cond} {costs : Bool → Nat} : OutLeaves s x (returnCond costs cc s) := by
  cases h : condHolds cc s.cpu.flags with
  | true => rw [returnCond_taken h]; exact popWord_leaves fun _ _ => rfl
  | false => rw [returnCond_not_taken h]; exact done_leaves rfl

/-! ### The shapes of the instructions that store -/

theorem storeByte_leaves {y : Byte} {f : State → State} (hf : ∀ t, (f t).bus = t.bus)
    (h : s.bus.storeReaches a x = false) : OutLeaves s x (storeByte cost a y f s) :=
  ((memWrite_leaves h).bind_ok fun _ t => hf t).finish

/-- What a store reaches is decided by the cartridge, which no read changes. -/
theorem Bus.storeReaches_read (b : Bus) (a c x : Word) : (b.read c).after.storeReaches a x = b.storeReaches a x := by
  have h : (b.read c).after.cart = b.cart := Bus.read_leaves (fun b => b.cart) (fun _ _ => rfl) (fun _ _ => rfl) b c
  unfold Bus.storeReaches
  rw [h]

theorem memRead_ok_state {y : Byte} {t : State} (h : memRead a s = .ok y t) : t = s.setBus (s.bus.read a).after := by
  unfold memRead at h
  cases e : s.bus.read a <;> rw [e] at h <;> cases h
  rfl

theorem modifyHl_leaves {f : Byte → Flags → Byte × Flags} (h : s.bus.storeReaches s.hl x = false) :
    OutLeaves s x (modifyHl cost f s) := by
  refine Res.Leaves.finish ((memRead_leaves _ s x).bind fun y t ht => ?_)
  cases memRead_ok_state ht
  have hr : (s.bus.read s.hl).after.storeReaches s.hl x = false := (s.bus.storeReaches_read ..).trans h
  exact (memWrite_leaves (s := s.setBus (s.bus.read s.hl).after) hr).bind_ok fun _ _ => rfl

theorem memWrite_ok_state {y : Byte} {u : Unit} {t : State} (h : memWrite a y s = .ok u t) :
    t = s.setBus (s.bus.written a y) := by
  unfold memWrite at h
  unfold Bus.written
  cases e : s.bus.write a y <;> rw [e] at h <;> cases h
  rfl

/-- Two stores in order, the second judged after the first. -/
theorem memWrite16_leaves (h : s.bus.storeReaches a x = false)
    (k : (s.bus.written a (loByte v)).storeReaches (a + 1) x = false) : (memWrite16 a v s).Leaves s x := by
  refine (memWrite_leaves h).bind fun _ t ht => ?_
  cases memWrite_ok_state ht
  exact memWrite_leaves k

theorem push16_leaves (h : s.bus.storeReaches (s.cpu.sp - 1) x = false)
    (k : (s.bus.written (s.cpu.sp - 1) (hiByte v)).storeReaches (s.cpu.sp - 2) x = false) :
    (push16 v s).Leaves s x := by
  refine Res.Leaves.bind (memWrite_leaves (s := s.setSp (s.cpu.sp - 1)) h) fun _ t ht => ?_
  cases memWrite_ok_state ht
  rw [← sp_sub_two] at k
  exact memWrite_leaves (s := State.setSp _ (s.cpu.sp - 1 - 1)) k

theorem pushWord_leaves (h : s.bus.storeReaches (s.cpu.sp - 1) x = false)
    (k : (s.bus.written (s.cpu.sp - 1) (hiByte v)).storeReaches (s.cpu.sp - 2) x = false) :
    OutLeaves s x (pushWord cost v s) :=
  (push16_leaves h k).finish

theorem callTo_leaves (h : s.bus.storeReaches (s.cpu.sp - 1) x = false)
    (k : (s.bus.written (s.cpu.sp - 1) (hiByte s.cpu.pc)).storeReaches (s.cpu.sp - 2) x = false) :
    OutLeaves s x (callTo cost w s) :=
  ((push16_leaves h k).bind_ok (f := fun _ t => t.setPc w) fun _ _ => rfl).finish

theorem callCond_leaves {cc : Cond} {costs : Bool → Nat} (h : s.bus.storeReaches (s.cpu.sp - 1) x = false)
    (k : (s.bus.written (s.cpu.sp - 1) (hiByte s.cpu.pc)).storeReaches (s.cpu.sp - 2) x = false) :
    OutLeaves s x (callCond costs cc w s) := by
  cases hc : condHolds cc s.cpu.flags with
  | true => rw [callCond_taken hc]; exact callTo_leaves h k
  | false => rw [callCond_not_taken hc]; exact done_leaves rfl

end

/-! ### The statements -/

/-- Settles O36: each of these is a register change, or reads one or two bytes and then changes registers. -/
theorem nonStoringFrame : Obligations.NonStoringFrame := by
  intro dst r p q op ro k cc n nn s t x i hi
  suffices h : OutLeaves s x (exec i s) from h t
  revert i
  simp only [List.forall_mem_cons]
  exact ⟨.of_eq (exec_ldRegReg ..) (done_leaves rfl), .of_eq (exec_ldRegImm ..) (done_leaves rfl),
    .of_eq (exec_ldRegMem ..) (withByte_leaves fun _ _ => rfl), withByte_leaves fun _ _ => rfl,
    withByte_leaves fun _ _ => rfl, withByte_leaves fun _ _ => rfl, withByte_leaves fun _ _ => rfl,
    withByte_leaves fun _ _ => rfl, withByte_leaves fun _ _ => rfl, withByte_leaves fun _ _ => rfl,
    .of_eq (exec_ldPairImm ..) (done_leaves (State.setPair_bus ..)), done_leaves rfl,
    .of_eq (exec_popPair ..) (popWord_leaves fun _ _ => rfl), popWord_leaves fun _ _ => rfl,
    .of_eq (exec_aluReg ..) (done_leaves rfl), .of_eq (exec_aluMem ..) (withByte_leaves fun _ _ => rfl),
    .of_eq (exec_aluImm ..) (done_leaves rfl), .of_eq (exec_incReg ..) (done_leaves rfl),
    .of_eq (exec_decReg ..) (done_leaves rfl), done_leaves rfl, done_leaves rfl, done_leaves rfl, done_leaves rfl,
    .of_eq (exec_incPair ..) (done_leaves (State.setPair_bus ..)),
    .of_eq (exec_decPair ..) (done_leaves (State.setPair_bus ..)),
    .of_eq (exec_addHlPair ..) (done_leaves rfl), done_leaves rfl, done_leaves rfl, done_leaves rfl, done_leaves rfl,
    done_leaves rfl, done_leaves rfl, .of_eq (exec_rotReg ..) (done_leaves rfl),
    .of_eq (exec_bitReg ..) (done_leaves rfl), .of_eq (exec_bitMem ..) (withByte_leaves fun _ _ => rfl),
    .of_eq (exec_setReg ..) (done_leaves rfl), .of_eq (exec_resReg ..) (done_leaves rfl), done_leaves rfl,
    .of_eq (exec_jpCond ..) jumpIf_leaves, done_leaves rfl, jumpIf_leaves, .of_eq (exec_jrCond ..) jumpIf_leaves,
    .of_eq (exec_ret s) (popWord_leaves fun _ _ => rfl), .of_eq (exec_retCond ..) returnCond_leaves,
    .of_eq (exec_reti s) (popWord_leaves fun _ _ => rfl), done_leaves rfl, done_leaves (haltWith_bus ..),
    done_leaves rfl, done_leaves rfl, done_leaves rfl, fun _ e => by cases e; rfl, List.forall_mem_nil _⟩

/-- Settles O37: each of these stores one byte at its address, or changes the byte at HL. -/
theorem storingFrame : Obligations.StoringFrame := by
  intro r ro k n nn s t x f hf he hx
  suffices h : s.bus.storeReaches f.2 x = false → OutLeaves s x (exec f.1 s) from h hx t he
  clear he hx
  revert f
  simp only [List.forall_mem_cons]
  exact ⟨fun h => .of_eq (exec_ldMemReg ..) (storeByte_leaves (fun _ => rfl) h), storeByte_leaves fun _ => rfl,
    storeByte_leaves fun _ => rfl, storeByte_leaves fun _ => rfl, storeByte_leaves fun _ => rfl,
    storeByte_leaves fun _ => rfl, storeByte_leaves fun _ => rfl, storeByte_leaves fun _ => rfl,
    storeByte_leaves fun _ => rfl, modifyHl_leaves, modifyHl_leaves,
    fun h => .of_eq (exec_rotMem ..) (modifyHl_leaves h), fun h => .of_eq (exec_setMem ..) (modifyHl_leaves h),
    fun h => .of_eq (exec_resMem ..) (modifyHl_leaves h), List.forall_mem_nil _⟩

/-- Settles O38: each of these but an untaken call pushes a word, or stores SP. -/
theorem stackFrame : Obligations.StackFrame := by
  intro q cc y nn s t x f hf he h1 h2
  suffices h : s.bus.storeReaches f.2.1 x = false →
      (s.bus.written f.2.1 f.2.2.2).storeReaches f.2.2.1 x = false → OutLeaves s x (exec f.1 s) from h h1 h2 t he
  clear he h1 h2
  revert f
  simp only [List.forall_mem_cons]
  exact ⟨fun h k => .of_eq (exec_pushPair ..) (pushWord_leaves h k), pushWord_leaves, callTo_leaves,
    fun h k => .of_eq (exec_callCond ..) (callCond_leaves h k), fun h k => .of_eq (exec_rst ..) (callTo_leaves h k),
    fun h k => (memWrite16_leaves h k).finish, List.forall_mem_nil _⟩

end Sys2Proof.Machine
end

section
/-! PROOFS. The frame and timing driver (60_exceptions.md R310 to R321): what a number of ticks makes of the timers, what
a phase runs and how long it takes, and the account of a frame. -/

namespace Sys2Proof.Machine

/-! ### Divider and timer (R320, R321) -/

/-- What an increment of TIMA reads and writes. -/
def Bus.timaRegs (b : Bus) : Byte × Byte × BitVec 5 := (b.io.tima, b.io.tma, b.io.ifl)

/-- An increment of TIMA on the registers it is about: TIMA, TMA and IF. -/
def countRegs (r : Byte × Byte × BitVec 5) : Byte × Byte × BitVec 5 :=
  if r.1 = 0xFF then (r.2.1, r.2.1, r.2.2 ||| 0b00100#5) else (r.1 + 1, r.2.1, r.2.2)

theorem Bus.countTima_eq (b : Bus) : b.countTima =
    if b.io.tima = 0xFF then { b with io := { b.io with tima := b.io.tma, ifl := b.io.ifl ||| 0b00100#5 } }
    else { b with io := { b.io with tima := b.io.tima + 1 } } := rfl

theorem Bus.countTima_timaRegs (b : Bus) : b.countTima.timaRegs = countRegs b.timaRegs := by
  rw [b.countTima_eq]
  unfold countRegs Bus.timaRegs
  split <;> rfl

theorem Bus.countTimaBy_timaRegs (b : Bus) (n : Nat) : (b.countTimaBy n).timaRegs = countRegs^[n] b.timaRegs := by
  induction n generalizing b with
  | zero => rfl
  | succ n ih => exact (ih b.countTima).trans (congrArg _ b.countTima_timaRegs)

/-- Increments of TIMA write TIMA and IF, nothing else. -/
theorem Bus.countTimaBy_leaves {α : Type} (f : Bus → α)
    (hf : ∀ c tima ifl, f { c with io := { c.io with tima := tima, ifl := ifl } } = f c) (b : Bus) (n : Nat) :
    f (b.countTimaBy n) = f b := by
  induction n generalizing b with
  | zero => rfl
  | succ n ih =>
    refine (ih b.countTima).trans ?_
    rw [b.countTima_eq]
    split
    · exact hf b _ _
    · exact hf b _ b.io.ifl

theorem Bus.advanceTima_of_off {b : Bus} (n : Nat) (h : b.io.tac.getLsbD 2 = false) : b.advanceTima n = b :=
  if_neg (Bool.eq_false_iff.mp h)

theorem Bus.advanceTima_of_on {b : Bus} (n : Nat) (h : b.io.tac.getLsbD 2 = true) : b.advanceTima n =
    { b with drv := { b.drv with timaAcc := (b.drv.timaAcc + n) % timaPeriod b.io.tac } }.countTimaBy
      ((b.drv.timaAcc + n) / timaPeriod b.io.tac) :=
  if_pos h

/-- The TIMA half writes TIMA, IF and its own accumulator, nothing else. -/
theorem Bus.advanceTima_leaves {α : Type} (f : Bus → α)
    (hregs : ∀ c tima ifl, f { c with io := { c.io with tima := tima, ifl := ifl } } = f c)
    (hacc : ∀ c acc, f { c with drv := { c.drv with timaAcc := acc } } = f c) (b : Bus) (n : Nat) :
    f (b.advanceTima n) = f b := by
  cases h : b.io.tac.getLsbD 2 with
  | false => rw [Bus.advanceTima_of_off n h]
  | true =>
    rw [Bus.advanceTima_of_on n h, Bus.countTimaBy_leaves f hregs]
    exact hacc b _

theorem Bus.timerAdvance_div (b : Bus) (n : Nat) :
    (b.timerAdvance n).io.div = b.io.div + BitVec.ofNat 8 ((b.drv.divAcc + n) / 256) :=
  Bus.advanceTima_leaves (fun b => b.io.div) (fun _ _ _ => rfl) (fun _ _ => rfl) (b.advanceDiv n) n

theorem Bus.timerAdvance_divAcc (b : Bus) (n : Nat) : (b.timerAdvance n).drv.divAcc = (b.drv.divAcc + n) % 256 :=
  Bus.advanceTima_leaves (fun b => b.drv.divAcc) (fun _ _ _ => rfl) (fun _ _ => rfl) (b.advanceDiv n) n

theorem Bus.timerAdvance_carry (b : Bus) (n : Nat) : (b.timerAdvance n).drv.carry = b.drv.carry :=
  Bus.advanceTima_leaves (fun b => b.drv.carry) (fun _ _ _ => rfl) (fun _ _ => rfl) (b.advanceDiv n) n

theorem Bus.timerAdvance_readOnly (b : Bus) (n : Nat) : (b.timerAdvance n).readOnly = b.readOnly :=
  Bus.advanceTima_leaves Bus.readOnly (fun _ _ _ => rfl) (fun _ _ => rfl) (b.advanceDiv n) n

theorem Bus.timerAdvance_of_off {b : Bus} (n : Nat) (h : b.io.tac.getLsbD 2 = false) :
    b.timerAdvance n = b.advanceDiv n :=
  Bus.advanceTima_of_off (b := b.advanceDiv n) n h

theorem Bus.timerAdvance_of_on {b : Bus} (n : Nat) (h : b.io.tac.getLsbD 2 = true) : b.timerAdvance n =
    { b.advanceDiv n with drv := { (b.advanceDiv n).drv with
      timaAcc := (b.drv.timaAcc + n) % timaPeriod b.io.tac } }.countTimaBy
      ((b.drv.timaAcc + n) / timaPeriod b.io.tac) :=
  Bus.advanceTima_of_on (b := b.advanceDiv n) n h

theorem timaPeriod_eq (tac : BitVec 3) : timaPeriod tac = [1024, 16, 64, 256].getD (tac.extractLsb' 0 2).toNat 0 := by
  revert tac
  decide

/-- Settles O52: the DIV half is left by the TIMA half; the increments start from the same TIMA, TMA and
IF in both states. -/
theorem timerAdvance : Obligations.TimerAdvance := by
  refine ⟨fun b n => ⟨b.timerAdvance_div n, b.timerAdvance_divAcc n, fun hoff => ?_, fun hon => ?_⟩,
    fun b n => ⟨rfl, congrArg (fun c => c.countTimaBy n) b.countTima_eq⟩⟩
  · rw [Bus.timerAdvance_of_off n hoff]
    exact ⟨rfl, rfl, rfl⟩
  · dsimp only
    rw [← timaPeriod_eq, Bus.timerAdvance_of_on n hon]
    have hregs := (Bus.countTimaBy_timaRegs { b.advanceDiv n with drv := { (b.advanceDiv n).drv with
      timaAcc := (b.drv.timaAcc + n) % timaPeriod b.io.tac } } ((b.drv.timaAcc + n) / timaPeriod b.io.tac)).trans
      (b.countTimaBy_timaRegs _).symm
    simp only [Bus.timaRegs, Prod.mk.injEq] at hregs
    obtain ⟨htima, _, hifl⟩ := hregs
    exact ⟨Bus.countTimaBy_leaves (fun c => c.drv.timaAcc) (fun _ _ _ => rfl) _ _, htima, hifl⟩

/-! ### A phase (R312) -/

/-- What a phase runs: Steps while no fatal error is recorded and the target is not reached, and no more; and the carry
it leaves. -/
theorem runPhase_spec (s : State) (budget : Nat) :
    let target : Int := budget - s.bus.drv.carry
    let after : Nat → State := fun m => Nat.repeat State.stepped m s
    let passed : Nat → Int := fun m => (after m).cpu.ticks - s.cpu.ticks
    ∃ n, (∀ m, m < n → (after m).cpu.fault = none ∧ passed m < target) ∧
      ¬((after n).cpu.fault = none ∧ passed n < target) ∧
      ((after n).cpu.fault ≠ none → s.runPhase budget = after n) ∧
      ((after n).cpu.fault = none → s.runPhase budget = { after n with
        bus := { (after n).bus with drv := { (after n).bus.drv with carry := (passed n - target).toNat } } }) := by
  intro target after passed
  obtain ⟨n, hgo, hrun, hstop, hticks, _⟩ := stepUntil_spec s.cpu.ticks target.toNat target.toNat s (Nat.le_refl _)
    (Nat.le_add_left _ _)
  have hpassed : ∀ m, m ≤ n → (((after m).cpu.ticks - s.cpu.ticks : Nat) : Int) = passed m := fun m hm =>
    Int.ofNat_sub (hticks m hm)
  have hlt : ∀ m, m ≤ n → ((after m).cpu.ticks - s.cpu.ticks < target.toNat ↔ passed m < target) := fun m hm => by
    rw [← hpassed m hm]
    omega
  have hphase : s.runPhase budget = (after n).unlessFault fun t => t.onBus fun b => { b with
      drv := { b.drv with carry := ((t.cpu.ticks - s.cpu.ticks : Nat) - target).toNat } } := by
    rw [show after n = s.stepUntil target.toNat s.cpu.ticks target.toNat from hrun.symm]
    rfl
  refine ⟨n, fun m hm => ⟨(hgo m hm).1, (hlt m hm.le).mp (hgo m hm).2⟩,
    fun h => hstop ⟨h.1, (hlt n (Nat.le_refl n)).mpr h.2⟩, fun h => ?_, fun h => ?_⟩
  · rw [hphase]
    exact State.unlessFault_of_fault (Option.isSome_iff_ne_none.mpr h) _
  · rw [hphase, State.unlessFault_of_none h, hpassed n (Nat.le_refl n)]
    rfl

/-! ### The account of ticks -/

/-- From `s` to `t` ticks pass for `n` ticks of budgets: without a fatal error what passed beyond them is the change of
the carry. The parameters stay. -/
structure State.Takes (s : State) (n : Nat) (t : State) : Prop where
  cfg : t.bus.cfg = s.bus.cfg
  account : t.cpu.fault = none →
    s.cpu.fault = none ∧ t.cpu.ticks + s.bus.drv.carry = s.cpu.ticks + n + t.bus.drv.carry

theorem State.Takes.refl (s : State) : s.Takes 0 s := ⟨rfl, fun h => ⟨h, rfl⟩⟩

theorem State.Takes.trans {s t u : State} {n m : Nat} (h : s.Takes n t) (k : t.Takes m u) : s.Takes (n + m) u := by
  refine ⟨k.cfg.trans h.cfg, fun hu => ?_⟩
  obtain ⟨ht, hk⟩ := k.account hu
  obtain ⟨hs, hh⟩ := h.account ht
  exact ⟨hs, by omega⟩

/-- A change of the bus takes no tick. -/
theorem State.takes_onBus {s : State} {f : Bus → Bus} (hcfg : (f s.bus).cfg = s.bus.cfg)
    (hcarry : (f s.bus).drv.carry = s.bus.drv.carry) : s.Takes 0 (s.onBus f) :=
  ⟨hcfg, fun h => ⟨h, congrArg (s.cpu.ticks + ·) hcarry.symm⟩⟩

/-- A part of a frame, left out after a fatal error (R272). -/
theorem State.Takes.unlessFault {s t : State} {n m : Nat} {f : State → State} (h : s.Takes n t)
    (hf : t.bus.cfg = s.bus.cfg → t.Takes m (f t)) : s.Takes (n + m) (t.unlessFault f) := by
  unfold State.unlessFault
  split
  · rename_i ht
    exact ⟨h.cfg, fun hn => by rw [hn] at ht; cases ht⟩
  · exact h.trans (hf h.cfg)

theorem runPhase_takes (s : State) (budget : Nat) : s.Takes budget (s.runPhase budget) := by
  refine ⟨(runPhase_busKeeps budget s).cfg, fun ht => ?_⟩
  obtain ⟨n, hgo, hstop, hfault, hnone⟩ := runPhase_spec s budget
  by_cases hn : (Nat.repeat State.stepped n s).cpu.fault = none
  · rw [hnone hn]
    refine ⟨?_, ?_⟩
    · cases n with
      | zero => exact hn
      | succ n => exact (hgo 0 (Nat.succ_pos n)).1
    · have hreached : ¬((Nat.repeat State.stepped n s).cpu.ticks - s.cpu.ticks : Int) < budget - s.bus.drv.carry :=
        fun h => hstop ⟨hn, h⟩
      dsimp only
      omega
  · rw [hfault hn] at ht
    exact absurd ht hn

theorem runPhases_takes (budgets : List Nat) (s : State) :
    s.Takes budgets.sum (budgets.foldl (fun u budget => u.runPhase budget) s) := by
  induction budgets generalizing s with
  | nil => exact .refl s
  | cons budget budgets ih => exact (runPhase_takes s budget).trans (ih _)

/-- Settles O53: `runPhase_spec` for one phase, `runPhases_takes` for a run of them. -/
theorem phaseAccounting : Obligations.PhaseAccounting := by
  refine fun s => ⟨fun budget => ?_, fun budgets ht => ((runPhases_takes budgets s).account ht).2⟩
  obtain ⟨n, hgo, hstop, hfault, hnone⟩ := runPhase_spec s budget
  refine ⟨n, hgo, hstop, hfault, hnone, fun m hm => ?_⟩
  exact Int.sub_lt_sub_left (hgo m (hm ▸ Nat.lt_succ_self m)).2 _

/-! ### The account of a frame (R317, R318) -/

theorem Bus.startOamSearch_drv (b : Bus) (y : Nat) : (b.startOamSearch y).drv = b.drv := by
  unfold Bus.startOamSearch
  dsimp only
  split <;> rfl

theorem Bus.startHBlank_drv (b : Bus) : b.startHBlank.drv = b.drv := by
  unfold Bus.startHBlank
  dsimp only
  split <;> rfl

theorem Bus.startVBlankLine_drv (b : Bus) (y : Nat) : (b.startVBlankLine y).drv = b.drv := by
  unfold Bus.startVBlankLine
  dsimp only
  split <;> rfl

theorem Bus.endVisibleLine_frame (b : Bus) (render : Bool) (y : Nat) :
    (b.endVisibleLine render y).cfg = b.cfg ∧ (b.endVisibleLine render y).drv.carry = b.drv.carry := by
  unfold Bus.endVisibleLine
  cases render <;> exact ⟨(Bus.timerAdvance_keeps _ _).cfg, Bus.timerAdvance_carry _ _⟩

theorem visibleLine_takes (render : Bool) (y : Nat) (s : State) :
    s.Takes s.bus.cfg.visibleLineTicks (s.visibleLine render y) := by
  have h : s.Takes (0 + 0 + s.bus.cfg.phaseOam + 0 + s.bus.cfg.phaseTransfer + 0 + s.bus.cfg.phaseHBlank + 0)
      (s.visibleLine render y) := by
    unfold State.visibleLine
    refine .unlessFault (.unlessFault (.unlessFault (.unlessFault (.unlessFault (.unlessFault (.unlessFault (.refl s)
      ?_) ?_) ?_) ?_) ?_) ?_) ?_ <;> intro hcfg
    · exact State.takes_onBus (Bus.startOamSearch_keeps _ y).cfg (congrArg _ (Bus.startOamSearch_drv _ y))
    · exact hcfg ▸ runPhase_takes _ _
    · exact State.takes_onBus rfl rfl
    · exact hcfg ▸ runPhase_takes _ _
    · exact State.takes_onBus (Bus.startHBlank_keeps _).cfg (congrArg _ (Bus.startHBlank_drv _))
    · exact hcfg ▸ runPhase_takes _ _
    · exact State.takes_onBus (Bus.endVisibleLine_frame _ render y).1 (Bus.endVisibleLine_frame _ render y).2
  unfold Config.Params.visibleLineTicks
  simpa only [Nat.zero_add, Nat.add_zero] using h

theorem vblankLine_takes (y : Nat) (s : State) : s.Takes s.bus.cfg.phaseVBlank (s.vblankLine y) := by
  have h : s.Takes (0 + 0 + s.bus.cfg.phaseVBlank + 0) (s.vblankLine y) := by
    unfold State.vblankLine
    refine .unlessFault (.unlessFault (.unlessFault (.refl s) ?_) ?_) ?_ <;> intro hcfg
    · exact State.takes_onBus (Bus.startVBlankLine_keeps _ y).cfg (congrArg _ (Bus.startVBlankLine_drv _ y))
    · exact hcfg ▸ runPhase_takes _ _
    · exact State.takes_onBus (Bus.timerAdvance_keeps _ _).cfg (Bus.timerAdvance_carry _ _)
  simpa only [Nat.zero_add, Nat.add_zero] using h

theorem runLines_succ (line : Nat → State → State) (n y : Nat) (s : State) :
    runLines line (n + 1) y s = runLines line n (y + 1) (line y s) := rfl

theorem runLines_takes {line : Nat → State → State} {ticks : Config.Params → Nat}
    (hline : ∀ y s, State.Takes s (ticks s.bus.cfg) (line y s)) (n y : Nat) (s : State) :
    s.Takes (n * ticks s.bus.cfg) (runLines line n y s) := by
  induction n generalizing y s with
  | zero => rw [Nat.zero_mul]; exact .refl s
  | succ n ih =>
    have h := (hline y s).trans (ih (y + 1) (line y s))
    rwa [(hline y s).cfg, Nat.add_comm, ← Nat.succ_mul] at h

theorem frameLines_takes (render : Bool) (s : State) : s.Takes s.bus.cfg.frameTicks (s.frameLines render) := by
  have hvisible := runLines_takes (ticks := Config.Params.visibleLineTicks) (visibleLine_takes render)
    Config.visibleLines 0 s
  have hvblank := runLines_takes (ticks := Config.Params.phaseVBlank) vblankLine_takes Config.vblankLines
    Config.visibleLines (runLines (State.visibleLine render) Config.visibleLines 0 s)
  rw [hvisible.cfg] at hvblank
  exact hvisible.trans hvblank

/-! ### LY and the LCD mode at the end of a frame (R316) -/

/-- Without a fatal error, LY is `y` and the LCD mode 1. -/
def State.InVBlank (s : State) (y : Nat) : Prop :=
  s.cpu.fault = none → s.bus.io.ly = BitVec.ofNat 8 y ∧ s.bus.io.mode = 1

/-- No Step writes the read-only fields. -/
theorem stepped_readOnly (s : State) : s.stepped.bus.readOnly = s.bus.readOnly :=
  stepped_keeps (fun b => b.readOnly = s.bus.readOnly)
    (fun b a h => (Bus.read_leaves Bus.readOnly (fun _ _ => rfl) (fun _ _ => rfl) b a).trans h)
    (fun b a v h => (b.write_readOnly a v).trans h) (fun _ _ h => h) rfl

theorem stepUntil_readOnly (fuel start target : Nat) (s : State) :
    (s.stepUntil fuel start target).bus.readOnly = s.bus.readOnly :=
  stepUntil_keeps (fun t => t.bus.readOnly = s.bus.readOnly) (fun t h => (stepped_readOnly t).trans h) fuel start target
    rfl

theorem runPhase_readOnly (budget : Nat) (s : State) : (s.runPhase budget).bus.readOnly = s.bus.readOnly := by
  rw [← stepUntil_readOnly _ s.cpu.ticks _ s]
  unfold State.runPhase State.unlessFault
  dsimp only
  split <;> rfl

theorem State.InVBlank.unlessFault {s : State} {y : Nat} {f : State → State} (h : s.InVBlank y)
    (hf : (f s).bus.readOnly = s.bus.readOnly) : (s.unlessFault f).InVBlank y := by
  unfold State.unlessFault
  split
  · exact h
  · rename_i hs
    intro _
    simp only [Bus.readOnly, Prod.mk.injEq] at hf
    obtain ⟨hly, hmode, _⟩ := hf
    rw [hly, hmode]
    exact h (Option.not_isSome_iff_eq_none.mp hs)

/-- A V-Blank line sets LY, and the mode where it is the first one; the others find the mode set. -/
theorem vblankLine_inVBlank {s : State} {y : Nat}
    (h : y ≠ Config.visibleLines → s.cpu.fault = none → s.bus.io.mode = 1) : (s.vblankLine y).InVBlank y := by
  have hstart : (s.unlessFault (·.onBus (·.startVBlankLine y))).InVBlank y := by
    intro hf
    cases hs : s.cpu.fault with
    | some e =>
      rw [State.unlessFault_of_fault (by rw [hs]; rfl), hs] at hf
      cases hf
    | none =>
      rw [State.unlessFault_of_none hs]
      show (s.bus.startVBlankLine y).io.ly = _ ∧ (s.bus.startVBlankLine y).io.mode = 1
      unfold Bus.startVBlankLine
      dsimp only
      split
      · exact ⟨rfl, rfl⟩
      · rename_i hy
        exact ⟨rfl, h hy hs⟩
  exact (hstart.unlessFault (runPhase_readOnly _ _)).unlessFault (Bus.timerAdvance_readOnly _ _)

theorem runLines_inVBlank {s : State} {y : Nat} (h : s.InVBlank y) (n : Nat) :
    (runLines State.vblankLine n (y + 1) s).InVBlank (y + n) := by
  induction n generalizing y s with
  | zero => exact h
  | succ n ih =>
    have hline : (s.vblankLine (y + 1)).InVBlank (y + 1) := vblankLine_inVBlank fun _ hs => (h hs).2
    rw [show y + (n + 1) = y + 1 + n by omega]
    exact ih hline

theorem frameLines_inVBlank (render : Bool) (s : State) : (s.frameLines render).InVBlank 153 := by
  unfold State.frameLines
  generalize runLines (State.visibleLine render) Config.visibleLines 0 s = t
  have hfirst : (t.vblankLine Config.visibleLines).InVBlank Config.visibleLines :=
    vblankLine_inVBlank fun h => absurd rfl h
  rw [show Config.vblankLines = 9 + 1 from rfl, runLines_succ]
  exact runLines_inVBlank hfirst 9

/-- Settles O54: a frame without a fatal error is its lines (`runFrame_completes`), which take their budgets
(`frameLines_takes`) and end in the vertical blank (`frameLines_inVBlank`). -/
theorem frameAccounting : Obligations.FrameAccounting := by
  refine ⟨fun _ => rfl, rfl, fun pcm s hf => ?_⟩
  obtain ⟨_, t, snd, ht, htf, hframe⟩ := runFrame_completes pcm s hf
  have haccount := (frameLines_takes _ _).account (ht ▸ htf)
  have hlcd := frameLines_inVBlank _ _ (ht ▸ htf)
  rw [← ht] at haccount hlcd
  rw [hframe]
  exact ⟨haccount.2, hlcd⟩

end Sys2Proof.Machine
end
